-- ==== Sys2Proof/Word.lean ====
section
/-! DEFINITION. The word types of the CRC-64/NVMe checksum core and the two plainest packings of bytes in words
(spec/00_scope.md R9, R10; spec/20_memory.md R52, R53). Nothing in the core is signed. -/

namespace Sys2Proof

/-- A 64-bit register value; bit 0 is the least significant bit (R9). -/
abbrev Word := BitVec 64

/-- One stream byte. -/
abbrev Byte := BitVec 8

/-- A 128-bit value: the fold register, or one block of 16 stream bytes (R14). -/
abbrev Block := BitVec 128

/-- A byte offset in the 4096-byte register window, 0x000 to 0xFFF (R51). -/
abbrev Offset := BitVec 12

/-- An access code `{dir, off[11:0]}`, dir = 1 for a write (R89). -/
abbrev AccessCode := BitVec 13

end Sys2Proof
end

