-- ==== Sys2Proof/Config.lean ====
section
/-! DEFINITION. What an implementation or a platform fixes. The widths of spec/00_scope.md R8 are this hardware's own
and stand as numbers; the two OPEN parameters of R8, CRC_BASE and N_INST, are constants without a body, so that no
proof can use a value of theirs (log 6). No result of the core is ever undefined, so there is no free value here
(spec/93_implementation_defined.md, "No behaviour of the core is `stuck`"). -/

namespace Sys2Proof

/-- The folding block width BLOCK_BYTES, 16 bytes (R8, D1). -/
def Config.blockBytes : Nat := 16

/-- The size of the register window in bytes (R8, R51). -/
def Config.windowBytes : Nat := 4096

/-- The parameter CRC_BASE: the base address of the window of instance `k` (R8, R51, R221). OPEN. -/
opaque Config.crcBase : Nat → Nat

/-- One less than the parameter N_INST. OPEN. -/
opaque Config.nInstPred : Nat

/-- The parameter N_INST: the number of core instances, at least 1 (R8, R221). -/
def Config.nInst : Nat := Config.nInstPred + 1

end Sys2Proof
end

