-- ==== Sys2Proof/Syntax.lean ====
section
/-! DEFINITION. What the host can ask of the core: the 21 instructions of spec/opcode_table.json, the command words
(spec/30_encoding.md R83), the registers of the window (spec/20_memory.md R55), raw bus accesses (R56), the error
names (spec/60_exceptions.md R210) and the events that reach the core (R59, R217). -/

namespace Sys2Proof

/-- The five commands of the opcode map (R83). A command is written to CMD as one 64-bit word. -/
inductive Command where
  | nop
  | init
  | update (n : BitVec 5)
  | finalize
  | clrerr
  deriving DecidableEq, Repr

/-- One constructor for each row of spec/opcode_table.json. The first five are the commands, the others the host
access forms of R89; `wrCmd w` is the access that carries the command word `w`. -/
inductive Instr where
  /-- NOP, the word 0 (R170). -/
  | nop
  /-- INIT, the word 1 (R172). -/
  | init
  /-- UPDATE n, the word 2 + (n << 8); `n` is the whole 5-bit field LEN (R82, R174). -/
  | update (n : BitVec 5)
  /-- FINALIZE, the word 3 (R177). -/
  | finalize
  /-- CLRERR, the word 4 (R179). -/
  | clrerr
  /-- RD.ID (R183). -/
  | rdId
  /-- RD.STATUS (R183). -/
  | rdStatus
  /-- RD.DATA0 (R183). -/
  | rdData0
  /-- RD.DATA1 (R183). -/
  | rdData1
  /-- RD.RESULT (R183). -/
  | rdResult
  /-- RD.COUNT (R183). -/
  | rdCount
  /-- RD.ACC (R183). -/
  | rdAcc
  /-- RD.FOLD_LO (R183). -/
  | rdFoldLo
  /-- RD.FOLD_HI (R183). -/
  | rdFoldHi
  /-- RD.TAIL0 (R183). -/
  | rdTail0
  /-- RD.TAIL1 (R183). -/
  | rdTail1
  /-- RD.CONST, word `i` of the constants ROM (R184). -/
  | rdConst (i : BitVec 3)
  /-- RD.TABLE, word `i` of the table ROM (R184). -/
  | rdTable (i : BitVec 8)
  /-- WR.CMD with the command word `w` (R182). -/
  | wrCmd (w : Word)
  /-- WR.DATA0 with the value `v` (R181). -/
  | wrData0 (v : Word)
  /-- WR.DATA1 with the value `v` (R181). -/
  | wrData1 (v : Word)
  deriving DecidableEq, Repr

/-- A command as the instruction of the opcode table that it is. -/
def Command.toInstr : Command → Instr
  | .nop => .nop
  | .init => .init
  | .update n => .update n
  | .finalize => .finalize
  | .clrerr => .clrerr

/-- The errors of R210, by name. -/
inductive ErrCode where
  /-- 1, CMD_OPCODE. -/
  | cmdOpcode
  /-- 2, CMD_RSVD. -/
  | cmdRsvd
  /-- 3, CMD_LEN. -/
  | cmdLen
  /-- 4, STATE_UPDATE_AFTER_FINAL. -/
  | stateUpdateAfterFinal
  /-- 5, BUS_ALIGN. -/
  | busAlign
  /-- 6, BUS_UNMAPPED. -/
  | busUnmapped
  /-- 7, BUS_DIR. -/
  | busDir
  deriving DecidableEq, Repr

/-- The registers of the window (R55); the ROM windows carry their index. -/
inductive RegName where
  | id
  | cmd
  | status
  | data0
  | data1
  | result
  | count
  | acc
  | foldLo
  | foldHi
  | tail0
  | tail1
  | const (i : BitVec 3)
  | table (i : BitVec 8)
  deriving DecidableEq, Repr

/-- The direction of a host access (R56). -/
inductive Dir where
  | read
  | write
  deriving DecidableEq, Repr

/-- One host access `(dir, off, size, wdata)` (R56). `size` is a count of bytes; `wdata` is used by a write only. -/
structure Access where
  dir : Dir
  off : Offset
  size : Nat
  wdata : Word
  deriving DecidableEq, Repr

/-- `BusRead(off)`: an 8-byte read at offset `off` (R11). -/
def busRead (off : Offset) : Access := { dir := .read, off := off, size := 8, wdata := 0 }

/-- `BusWrite(off, v)`: an 8-byte write of `v` at offset `off` (R11). -/
def busWrite (off : Offset) (v : Word) : Access := { dir := .write, off := off, size := 8, wdata := v }

/-- What can reach the core from outside: a host access (R56), or an assertion of the reset input, perhaps while an
access is in progress (R217, R240). Loss of power is the second (R223). -/
inductive HostEvent where
  | access (a : Access)
  | reset (inProgress : Option Access)
  deriving DecidableEq, Repr

/-- The bus response `resp` (R56). -/
inductive Resp where
  | okay
  | error
  deriving DecidableEq, Repr

/-- The core's answer `(resp, rdata)` to one access (R56). -/
structure Response where
  resp : Resp
  rdata : Word
  deriving DecidableEq, Repr

end Sys2Proof
end

