-- ==== Sys2Proof/WellFormed.lean ====
section
/-! DEFINITION. Which instructions have a legal encoding. Every operand has exactly the width of its field, so the one
check is UPDATE's byte count: 0 to 16 are legal and 17 to 31 are CMD_LEN (spec/30_encoding.md R82, R83, R87). WR.CMD
carries any word: a malformed command word is still a legal access (spec/42_digest_commands.md R182). -/

namespace Sys2Proof

/-- The check: the instruction has a legal encoding. -/
def Instr.wellFormed : Instr → Bool
  | .update n => decide (n.toNat ≤ 16)
  | .nop | .init | .finalize | .clrerr => true
  | .rdId | .rdStatus | .rdData0 | .rdData1 | .rdResult | .rdCount | .rdAcc => true
  | .rdFoldLo | .rdFoldHi | .rdTail0 | .rdTail1 | .rdConst _ | .rdTable _ => true
  | .wrCmd _ | .wrData0 _ | .wrData1 _ => true

/-- The instruction has a legal encoding. -/
abbrev Instr.WellFormed (i : Instr) : Prop := i.wellFormed = true

end Sys2Proof
end

