-- ==== Sys2Proof/Decode.lean ====
section
/-! DEFINITION. Decoding host traffic, total, with every rejection by the name of the error it raises, and the
encoder. Two levels, as in the spec: a bus access (spec/20_memory.md R55, R56; spec/30_encoding.md R89), and the
command word that a write to CMD carries (spec/30_encoding.md R80 to R88). -/

namespace Sys2Proof

/-! ### Command words -/

/-- OP, `w[7:0]` (R80). -/
def opField (w : Word) : Byte := w.extractLsb' 0 8

/-- LEN, `w[12:8]` (R80, R82). -/
def lenField (w : Word) : BitVec 5 := w.extractLsb' 8 5

/-- RSVD, `w[63:13]` (R80). -/
def rsvdField (w : Word) : BitVec 51 := w.extractLsb' 13 51

/-- The opcode map (R83): the command an OP value selects, given LEN; OP 0x05 to 0xFF selects none (R84). -/
def commandOfOp (op : Byte) (len : BitVec 5) : Option Command :=
  match op.toNat with
  | 0 => some .nop
  | 1 => some .init
  | 2 => some (.update len)
  | 3 => some .finalize
  | 4 => some .clrerr
  | _ => none

/-- The first three checks of R88 in their order: CMD_OPCODE (R84), CMD_RSVD (R86), CMD_LEN (R87). The fourth check,
STATE_UPDATE_AFTER_FINAL, needs the state and stands in UPDATE's meaning. -/
def decodeCommandWord (w : Word) : Except ErrCode Command :=
  match commandOfOp (opField w) (lenField w) with
  | none => .error .cmdOpcode
  | some c =>
    if rsvdField w ≠ 0 ∨ (opField w ≠ 2 ∧ lenField w ≠ 0) then .error .cmdRsvd
    else if opField w = 2 ∧ 16 < (lenField w).toNat then .error .cmdLen
    else .ok c

/-! ### Bus accesses -/

/-- `decode_offset` of R56, from the register map R55, for an offset that is a multiple of 8; `none` is an unmapped
offset, 0x060 to 0x3F8 and 0x440 to 0x7F8 (R64). -/
def decodeOffset (off : Offset) : Option RegName :=
  match off.toNat with
  | 0x000 => some .id
  | 0x008 => some .cmd
  | 0x010 => some .status
  | 0x018 => some .data0
  | 0x020 => some .data1
  | 0x028 => some .result
  | 0x030 => some .count
  | 0x038 => some .acc
  | 0x040 => some .foldLo
  | 0x048 => some .foldHi
  | 0x050 => some .tail0
  | 0x058 => some .tail1
  | n =>
    if 0x400 ≤ n ∧ n ≤ 0x438 then some (.const (BitVec.ofNat 3 ((n - 0x400) / 8)))
    else if 0x800 ≤ n ∧ n ≤ 0xFF8 then some (.table (BitVec.ofNat 8 ((n - 0x800) / 8)))
    else none

/-- The offset of a register (R55). -/
def offsetOf : RegName → Offset
  | .id => 0x000
  | .cmd => 0x008
  | .status => 0x010
  | .data0 => 0x018
  | .data1 => 0x020
  | .result => 0x028
  | .count => 0x030
  | .acc => 0x038
  | .foldLo => 0x040
  | .foldHi => 0x048
  | .tail0 => 0x050
  | .tail1 => 0x058
  | .const i => BitVec.ofNat 12 (0x400 + 8 * i.toNat)
  | .table i => BitVec.ofNat 12 (0x800 + 8 * i.toNat)

/-- The read form of a register (R89), `none` where R55 gives no R. -/
def readForm : RegName → Option Instr
  | .id => some .rdId
  | .cmd => none
  | .status => some .rdStatus
  | .data0 => some .rdData0
  | .data1 => some .rdData1
  | .result => some .rdResult
  | .count => some .rdCount
  | .acc => some .rdAcc
  | .foldLo => some .rdFoldLo
  | .foldHi => some .rdFoldHi
  | .tail0 => some .rdTail0
  | .tail1 => some .rdTail1
  | .const i => some (.rdConst i)
  | .table i => some (.rdTable i)

/-- The write form of a register with its data (R89), `none` where R55 gives no W. -/
def writeForm (r : RegName) (v : Word) : Option Instr :=
  match r with
  | .cmd => some (.wrCmd v)
  | .data0 => some (.wrData0 v)
  | .data1 => some (.wrData1 v)
  | .id | .status | .result | .count | .acc | .foldLo | .foldHi | .tail0 | .tail1 | .const _ | .table _ => none

/-- The checks of R56 in their order: BUS_ALIGN, BUS_UNMAPPED, BUS_DIR. An access that passes them is an access form
of R89. -/
def decodeAccess (a : Access) : Except ErrCode Instr :=
  if a.size ≠ 8 ∨ a.off.toNat % 8 ≠ 0 then .error .busAlign
  else
    match decodeOffset a.off with
    | none => .error .busUnmapped
    | some r =>
      match (match a.dir with
        | .read => readForm r
        | .write => writeForm r a.wdata) with
      | none => .error .busDir
      | some i => .ok i

/-- The 8-byte access with access code `{dir, off[11:0]}` (R89). -/
def Access.ofCode (a : AccessCode) (wdata : Word) : Access :=
  { dir := if a.getLsbD 12 then .write else .read, off := a.extractLsb' 0 12, size := 8, wdata := wdata }

/-! ### Encodings and the encoder -/

/-- The two formats of the opcode table: CMD64, a command word, and ACCESS13, an access code with the data of a
write. -/
inductive Encoding where
  | command (w : Word)
  | access (code : AccessCode) (wdata : Word)
  deriving DecidableEq, Repr

/-- The decoder of both formats. -/
def decode : Encoding → Except ErrCode Instr
  | .command w =>
    match decodeCommandWord w with
    | .ok c => .ok c.toInstr
    | .error e => .error e
  | .access code wdata => decodeAccess (Access.ofCode code wdata)

/-- The word of an instruction, from the match values of R83 and R89; LEN stands at `w[12:8]`, a ROM index at
`a[5:3]` or `a[10:3]`. A read carries no data, and 0 stands in its place (log 12). -/
def encode : Instr → Encoding
  | .nop => .command 0x0
  | .init => .command 0x1
  | .update n => .command (0x2 + (n.setWidth 64 <<< 8))
  | .finalize => .command 0x3
  | .clrerr => .command 0x4
  | .rdId => .access 0x0000 0
  | .rdStatus => .access 0x0010 0
  | .rdData0 => .access 0x0018 0
  | .rdData1 => .access 0x0020 0
  | .rdResult => .access 0x0028 0
  | .rdCount => .access 0x0030 0
  | .rdAcc => .access 0x0038 0
  | .rdFoldLo => .access 0x0040 0
  | .rdFoldHi => .access 0x0048 0
  | .rdTail0 => .access 0x0050 0
  | .rdTail1 => .access 0x0058 0
  | .rdConst i => .access (0x0400 + (i.setWidth 13 <<< 3)) 0
  | .rdTable i => .access (0x0800 + (i.setWidth 13 <<< 3)) 0
  | .wrCmd w => .access 0x1008 w
  | .wrData0 v => .access 0x1018 v
  | .wrData1 v => .access 0x1020 v

/-- How an encoding reaches the core: a command word by an 8-byte write to CMD (R80), an access code as the access it
names (R89). -/
def Encoding.toAccess : Encoding → Access
  | .command w => busWrite (offsetOf .cmd) w
  | .access code wdata => Access.ofCode code wdata

/-- The bits that the opcode table numbers: a command word, or an access code. -/
def Encoding.word : Encoding → Word
  | .command w => w
  | .access code _ => code.setWidth 64

/-- The encoding of the word `w` of a row that the opcode table gives `nbits` bits, in whole bytes: a row of at most
16 bits is an access code (R89) with data 0, a longer one a command word (R80) (log 10). -/
def Encoding.ofTableWord (nbits w : Nat) : Encoding :=
  if nbits ≤ 16 then .access (BitVec.ofNat 13 w) 0 else .command (BitVec.ofNat 64 w)

/-- What the decoder reads from the word `w` of an opcode-table row; `none` where it refuses. A number that does not
fit the format's width is refused (log 10). -/
def decodeTableWord (nbits w : Nat) : Option Instr :=
  if w < (if nbits ≤ 16 then 2 ^ 13 else 2 ^ 64) then
    match decode (Encoding.ofTableWord nbits w) with
    | .ok i => some i
    | .error _ => none
  else none

/-! ### The opcode table as data -/

/-- A row of spec/opcode_table.json: a word `w` of the row's format is the row's when `w &&& mask = pattern`. -/
structure OpcodeRow where
  mnemonic : String
  isCommand : Bool
  pattern : Word
  mask : Word
  deriving DecidableEq, Repr

/-- The row of an instruction. -/
def Instr.row : Instr → OpcodeRow
  | .nop => ⟨"NOP", true, 0x0, 0xFFFFFFFFFFFFFFFF⟩
  | .init => ⟨"INIT", true, 0x1, 0xFFFFFFFFFFFFFFFF⟩
  | .update _ => ⟨"UPDATE", true, 0x2, 0xFFFFFFFFFFFFE0FF⟩
  | .finalize => ⟨"FINALIZE", true, 0x3, 0xFFFFFFFFFFFFFFFF⟩
  | .clrerr => ⟨"CLRERR", true, 0x4, 0xFFFFFFFFFFFFFFFF⟩
  | .rdId => ⟨"RD.ID", false, 0x0000, 0x1FFF⟩
  | .rdStatus => ⟨"RD.STATUS", false, 0x0010, 0x1FFF⟩
  | .rdData0 => ⟨"RD.DATA0", false, 0x0018, 0x1FFF⟩
  | .rdData1 => ⟨"RD.DATA1", false, 0x0020, 0x1FFF⟩
  | .rdResult => ⟨"RD.RESULT", false, 0x0028, 0x1FFF⟩
  | .rdCount => ⟨"RD.COUNT", false, 0x0030, 0x1FFF⟩
  | .rdAcc => ⟨"RD.ACC", false, 0x0038, 0x1FFF⟩
  | .rdFoldLo => ⟨"RD.FOLD_LO", false, 0x0040, 0x1FFF⟩
  | .rdFoldHi => ⟨"RD.FOLD_HI", false, 0x0048, 0x1FFF⟩
  | .rdTail0 => ⟨"RD.TAIL0", false, 0x0050, 0x1FFF⟩
  | .rdTail1 => ⟨"RD.TAIL1", false, 0x0058, 0x1FFF⟩
  | .rdConst _ => ⟨"RD.CONST", false, 0x0400, 0x1FC7⟩
  | .rdTable _ => ⟨"RD.TABLE", false, 0x0800, 0x1807⟩
  | .wrCmd _ => ⟨"WR.CMD", false, 0x1008, 0x1FFF⟩
  | .wrData0 _ => ⟨"WR.DATA0", false, 0x1018, 0x1FFF⟩
  | .wrData1 _ => ⟨"WR.DATA1", false, 0x1020, 0x1FFF⟩

end Sys2Proof
end

