-- ==== Sys2Proof/Machine/State.lean ====
section
/-! DEFINITION. The state of one core instance as plain data (spec/10_state.md R22 to R29, R36), the reasons a step
could stop, and the state after reset. The two ROMs and ID are constants and no state (R36; Machine/Rom.lean). The
last two fields stand for the bus and are the model's own (logs 1 and 2). -/

namespace Sys2Proof.Machine

/-- The two values of STATE (R22): OPEN accepts UPDATE, FINALIZED makes the result readable. -/
inductive Phase where
  | opened
  | finalized
  deriving DecidableEq, Repr

/-- The state of one core instance. -/
structure State where
  /-- STATE (R22). -/
  phase : Phase
  /-- ACC, the 64-bit accumulator (R23). -/
  acc : Word
  /-- FOLD, the 128-bit fold register (R24). -/
  fold : Block
  /-- FV, the fold-valid flag (R24). -/
  fv : Bool
  /-- TAIL, the pending bytes, oldest first; TAIL_LEN is its length, at most 15 in every reachable state (R26). -/
  tail : List Byte
  /-- COUNT, bytes consumed, modulo 2^64 (R27). -/
  count : Word
  /-- DATA0, stream bytes 0 to 7 of the next UPDATE (R28). -/
  data0 : Word
  /-- DATA1, stream bytes 8 to 15 of the next UPDATE (R28). -/
  data1 : Word
  /-- ERR_CMD, sticky (R29). -/
  errCmd : Bool
  /-- ERR_STATE, sticky (R29). -/
  errState : Bool
  /-- ERR_BUS, sticky (R29). -/
  errBus : Bool
  /-- LAST_ERR, the code of the most recent error (R29). -/
  lastErr : BitVec 8
  /-- Host events not yet decided, in the order the core receives them (R59). The model's own field: DESIGN CHOICE,
  log 1. -/
  pending : List HostEvent
  /-- The bus responses given so far in this run, oldest first (R56, R248). The model's own field: DESIGN CHOICE,
  log 2. -/
  responses : List Response
  deriving DecidableEq, Repr

/-- Reasons a step stops with a fault: none. The core takes no trap and is never stuck: an error is recorded in the
error fields and the machine goes on (spec/60_exceptions.md R213; spec/93_implementation_defined.md). Nothing raises
a fault, so the type has no constructor: safe, since no behaviour of the spec is cut off by one (log 4). -/
inductive Fault where
  deriving DecidableEq, Repr

/-- Reasons the model has no meaning for an instruction. -/
inductive Refusal where
  /-- The arm of `exec` of an instruction that is not modelled yet. No arm raises it: every row of the opcode table
  has its meaning. Safe: a refusal proves nothing about the hardware. -/
  | notModelled (mnemonic : String)
  deriving DecidableEq, Repr

/-- The machine right after reset: every field at the value of R36 (R240). The spec gives every value; the two fields
of the model's own are empty (DESIGN CHOICE, logs 1 and 2). -/
def State.reset : State where
  phase := .opened
  acc := 0xFFFFFFFFFFFFFFFF
  fold := 0
  fv := false
  tail := []
  count := 0
  data0 := 0
  data1 := 0
  errCmd := false
  errState := false
  errBus := false
  lastErr := 0
  pending := []
  responses := []

/-- What an instruction or a step answers. -/
abbrev Outcome := Host.Outcome State Fault Refusal

end Sys2Proof.Machine
end

