-- ==== Sys2Proof/Machine/Datapath.lean ====
section
/-! DEFINITION. The folding-reduction engine and the tail processor (spec/41_datapath.md R140 to R146): pure functions
of their operands and the ROM, which raise nothing and write nothing. -/

namespace Sys2Proof.Machine

/-- The first `n` rounds of the loop of R140: the XOR of `zext_128(a) << i` over the set bits `i < n` of `b`. -/
def clmulRounds (a b : Word) : Nat → Block
  | 0 => 0
  | n + 1 => if b.getLsbD n then clmulRounds a b n ^^^ (a.setWidth 128 <<< n) else clmulRounds a b n

/-- `CLMUL64(a, b)`, the carry-less product (R140). -/
def clmul64 (a b : Word) : Block := clmulRounds a b 64

/-- `TAIL_STEP(acc, b)`, one byte through the table (R142). -/
def tailStep (acc : Word) (b : Byte) : Word :=
  let idx := (acc ^^^ b.setWidth 64).extractLsb' 0 8
  romTable idx ^^^ (acc >>> 8)

/-- `tail_steps`: TAIL_STEP for each byte in order (spec/10_state.md R34, the loop of R177). -/
def tailSteps (acc : Word) (bytes : List Byte) : Word := bytes.foldl tailStep acc

/-- `ABSORB(V, acc)`, the first block's entry into the fold register (R143). -/
def absorb (v : Block) (acc : Word) : Block := v ^^^ acc.setWidth 128

/-- `F[63:0]`. -/
def lowHalf (f : Block) : Word := f.extractLsb' 0 64

/-- `F[127:64]`. -/
def highHalf (f : Block) : Word := f.extractLsb' 64 64

/-- `FOLD_STEP(F, V)` with K_HI = ROM_CONST[4] and K_LO = ROM_CONST[5] (R144). -/
def foldStep (f v : Block) : Block :=
  clmul64 (lowHalf f) (romConst 4) ^^^ clmul64 (highHalf f) (romConst 5) ^^^ v

/-- `REDUCE(F)`, with K_LO = ROM_CONST[5], MU_R = ROM_CONST[6] and POLY_R = ROM_CONST[1] (R146). -/
def reduce (f : Block) : Word :=
  let g := clmul64 (lowHalf f) (romConst 5) ^^^ (highHalf f).setWidth 128
  let a := lowHalf g
  let c := clmul64 a (romConst 6)
  let q := a ^^^ lowHalf (c <<< 1)
  let d := clmul64 q (romConst 1)
  let r := d.extractLsb' 63 64
  r ^^^ highHalf g

end Sys2Proof.Machine
end

