-- ==== Sys2Proof/Machine/Operands.lean ====
section
/-! DEFINITION. Operands and register views: byte lanes and the staged bytes of UPDATE (spec/20_memory.md R53), and
the values of the registers that have no storage of their own (spec/10_state.md R30, R31; spec/20_memory.md R55). -/

namespace Sys2Proof.Machine

/-- The sum over k of `t_k << 8k`, byte 0 in lanes 7:0 (R30, R53; spec/42_digest_commands.md R175). The terms have no
bit in common, so the sum is their OR. -/
def packLanes (w : Nat) : List Byte → BitVec w
  | [] => 0
  | b :: bs => b.setWidth w ||| (packLanes w bs <<< 8)

/-- The 16 bytes of a block in lane order, `[V[7:0], V[15:8], ..., V[127:120]]` (spec/41_datapath.md R147, R149). -/
def blockBytes (v : Block) : List Byte := (List.range 16).map fun k => v.extractLsb' (8 * k) 8

/-- `byte(j)` of an UPDATE: lane j of `{DATA1, DATA0}` (R53). -/
def laneByte (d0 d1 : Word) (j : Nat) : Byte := (d1 ++ d0).extractLsb' (8 * j) 8

/-- The stream bytes `byte(0) ... byte(n-1)` of an UPDATE of `n` bytes (R53, R174). -/
def laneBytes (d0 d1 : Word) (n : Nat) : List Byte := (List.range n).map (laneByte d0 d1)

/-- The bytes an UPDATE of `n` bytes takes from the staging registers. -/
def State.stagedBytes (s : State) (n : Nat) : List Byte := laneBytes s.data0 s.data1 n

/-- TAIL_LEN (R26). -/
def State.tailLen (s : State) : Nat := s.tail.length

/-- RESULT: ACC when FINALIZED, else 0 (R31). -/
def State.result (s : State) : Word :=
  match s.phase with
  | .finalized => s.acc
  | .opened => 0

/-- FOLD_LO, `FOLD[63:0]` (spec/20_memory.md R55). -/
def State.foldLo (s : State) : Word := lowHalf s.fold

/-- FOLD_HI, `FOLD[127:64]` (spec/20_memory.md R55). -/
def State.foldHi (s : State) : Word := highHalf s.fold

/-- TAIL0, pending tail bytes 0 to 7, zero beyond TAIL_LEN (R30). -/
def State.tail0 (s : State) : Word := packLanes 64 (s.tail.take 8)

/-- TAIL1, pending tail bytes 8 to 15, zero beyond TAIL_LEN (R30). -/
def State.tail1 (s : State) : Word := packLanes 64 ((s.tail.drop 8).take 8)

end Sys2Proof.Machine
end

