-- ==== Sys2Proof/Machine/Flags.lean ====
section
/-! DEFINITION. Flags: the codes and sticky-flag classes of the errors (spec/60_exceptions.md R210, R213) and the
STATUS word assembled from state (spec/10_state.md R25). -/

namespace Sys2Proof

/-- The code of an error, the value LAST_ERR takes (R210). -/
def ErrCode.code : ErrCode → BitVec 8
  | .cmdOpcode => 1
  | .cmdRsvd => 2
  | .cmdLen => 3
  | .stateUpdateAfterFinal => 4
  | .busAlign => 5
  | .busUnmapped => 6
  | .busDir => 7

/-- The errors that set ERR_CMD: codes 1 to 3 (R213). -/
def ErrCode.setsErrCmd : ErrCode → Bool
  | .cmdOpcode | .cmdRsvd | .cmdLen => true
  | .stateUpdateAfterFinal | .busAlign | .busUnmapped | .busDir => false

/-- The error that sets ERR_STATE: code 4 (R213). -/
def ErrCode.setsErrState : ErrCode → Bool
  | .stateUpdateAfterFinal => true
  | .cmdOpcode | .cmdRsvd | .cmdLen | .busAlign | .busUnmapped | .busDir => false

/-- The errors that set ERR_BUS: codes 5 to 7 (R213). -/
def ErrCode.setsErrBus : ErrCode → Bool
  | .busAlign | .busUnmapped | .busDir => true
  | .cmdOpcode | .cmdRsvd | .cmdLen | .stateUpdateAfterFinal => false

namespace Machine

/-- The encoding of STATE: OPEN is 0, FINALIZED is 1 (R22). -/
def Phase.bit : Phase → Bool
  | .opened => false
  | .finalized => true

/-- A one-bit field as a 64-bit value. -/
def flagWord (b : Bool) : Word := if b then 1 else 0

/-- STATUS = zext_64(STATE) | FV << 2 | L << 8 | ERR_CMD << 16 | ERR_STATE << 17 | ERR_BUS << 18 | LAST_ERR << 24
(R25). -/
def State.status (s : State) : Word :=
  flagWord s.phase.bit ||| (flagWord s.fv <<< 2) ||| (BitVec.ofNat 64 s.tailLen <<< 8) |||
    (flagWord s.errCmd <<< 16) ||| (flagWord s.errState <<< 17) ||| (flagWord s.errBus <<< 18) |||
    (s.lastErr.setWidth 64 <<< 24)

end Machine

end Sys2Proof
end

