-- ==== Sys2Proof/Machine/Ops.lean ====
section
/-! DEFINITION. The shared operations over the state: answering on the bus, recording an error (the core's trap
entry, spec/60_exceptions.md R213) and clearing the record (R215, spec/42_digest_commands.md R179), the byte step of
UPDATE (R175), and the draining of FINALIZE (R177). -/

namespace Sys2Proof.Machine

/-- The response `(OKAY, v)` (spec/20_memory.md R56). -/
def okay (v : Word) : Response := { resp := .okay, rdata := v }

/-- The response `(ERROR, 0)` (spec/20_memory.md R56). -/
def busErrorResponse : Response := { resp := .error, rdata := 0 }

/-- Complete an access on the bus with the response `r`. -/
def State.respond (s : State) (r : Response) : State := { s with responses := s.responses ++ [r] }

/-- `record_error(e)`: the sticky flag of the error and LAST_ERR, and nothing else (R213). -/
def State.recordError (s : State) (e : ErrCode) : State :=
  { s with
    errCmd := s.errCmd || e.setsErrCmd
    errState := s.errState || e.setsErrState
    errBus := s.errBus || e.setsErrBus
    lastErr := e.code }

/-- Clear the error record: the four fields of R29 (R179, R215). -/
def State.clearErrors (s : State) : State :=
  { s with errCmd := false, errState := false, errBus := false, lastErr := 0 }

/-- `raise BusError(e)`: record it and answer ERROR with rdata 0 (R56, R213). -/
def State.raiseBusError (s : State) (e : ErrCode) : State := (s.recordError e).respond busErrorResponse

/-- `raise CmdError(e)`: record it; the write of CMD still completes with OKAY (R213, R214). -/
def State.raiseCmdError (s : State) (e : ErrCode) : State := (s.recordError e).respond (okay 0)

/-- The state of a new digest: the effect of INIT, which leaves DATA0, DATA1 and the error record alone (R172). -/
def State.startDigest (s : State) : State :=
  { s with phase := .opened, acc := romConst 2, fold := 0, fv := false, tail := [], count := 0 }

/-- A complete block enters the folding engine: ABSORB for the first block, FOLD_STEP for the others (R175). -/
def State.takeBlock (s : State) (v : Block) : State :=
  if s.fv then { s with tail := [], fold := foldStep s.fold v }
  else { s with tail := [], fold := absorb v s.acc, fv := true }

/-- The first two lines of PUSH: the byte joins the tail and is counted modulo 2^64 (R175). -/
def State.appendByte (s : State) (b : Byte) : State := { s with tail := s.tail ++ [b], count := s.count + 1 }

/-- `PUSH(b)`, the byte step of UPDATE: append, and when the tail holds 16 bytes empty it into the folding engine
(R175). -/
def State.push (s : State) (b : Byte) : State :=
  if (s.appendByte b).tailLen = 16 then (s.appendByte b).takeBlock (packLanes 128 (s.appendByte b).tail)
  else s.appendByte b

/-- PUSH for each byte in order (R174). -/
def State.pushAll (s : State) (bytes : List Byte) : State := bytes.foldl State.push s

/-- The first step of FINALIZE: FOLD back into ACC when it is valid (R177). -/
def State.reduceFold (s : State) : State :=
  if s.fv then { s with acc := reduce s.fold, fold := 0, fv := false } else s

/-- The second step of FINALIZE: the tail, oldest byte first, through the tail processor (R177). -/
def State.drainTail (s : State) : State := { s with acc := tailSteps s.acc s.tail, tail := [] }

/-- The last step of FINALIZE: the final XOR and the transition to FINALIZED (R177). -/
def State.closeDigest (s : State) : State := { s with acc := s.acc ^^^ romConst 3, phase := .finalized }

end Sys2Proof.Machine
end

