-- ==== Sys2Proof/Machine/Commands.lean ====
section
/-! DEFINITION. The five digest commands (spec/42_digest_commands.md R170 to R179). A command is a write of its word to
CMD, so each completes on the bus with OKAY (spec/60_exceptions.md R214). -/

namespace Sys2Proof.Machine

/-- NOP: nothing changes (R170). -/
def execNop (s : State) : Outcome := .next (s.respond (okay 0))

/-- INIT: start a new digest, in either state (R172). -/
def execInit (s : State) : Outcome := .next (s.startDigest.respond (okay 0))

/-- UPDATE n: consume n staged bytes (R174). The two checks that remain of R88 come first, in its order: CMD_LEN, then
STATE_UPDATE_AFTER_FINAL, whatever n is (R87, R178). -/
def execUpdate (n : BitVec 5) (s : State) : Outcome :=
  if 16 < n.toNat then .next (s.raiseCmdError .cmdLen)
  else
    match s.phase with
    | .finalized => .next (s.raiseCmdError .stateUpdateAfterFinal)
    | .opened => .next ((s.pushAll (s.stagedBytes n.toNat)).respond (okay 0))

/-- FINALIZE: drain, apply the final XOR, make the result readable; an idempotent read when already FINALIZED
(R177, R178). -/
def execFinalize (s : State) : Outcome :=
  match s.phase with
  | .finalized => .next (s.respond (okay 0))
  | .opened => .next (s.reduceFold.drainTail.closeDigest.respond (okay 0))

/-- CLRERR: clear the error record (R179). -/
def execClrerr (s : State) : Outcome := .next (s.clearErrors.respond (okay 0))

end Sys2Proof.Machine
end

