-- ==== Sys2Proof/Machine/AccessForms.lean ====
section
/-! DEFINITION. The host access forms (spec/42_digest_commands.md R181 to R184; spec/20_memory.md R56, R65): the reads,
which change nothing but the bus, and the writes of CMD, DATA0 and DATA1. -/

namespace Sys2Proof.Machine

/-- A read of a register that holds `v`: OKAY with `v`, no side effect (R58, R183). -/
def State.readValue (s : State) (v : Word) : Outcome := .next (s.respond (okay v))

/-- RD.ID (spec/10_state.md R32). -/
def execRdId (s : State) : Outcome := s.readValue idWord

/-- RD.STATUS (spec/10_state.md R25). -/
def execRdStatus (s : State) : Outcome := s.readValue s.status

/-- RD.DATA0 (spec/10_state.md R28). -/
def execRdData0 (s : State) : Outcome := s.readValue s.data0

/-- RD.DATA1 (spec/10_state.md R28). -/
def execRdData1 (s : State) : Outcome := s.readValue s.data1

/-- RD.RESULT (spec/10_state.md R31). -/
def execRdResult (s : State) : Outcome := s.readValue s.result

/-- RD.COUNT (spec/10_state.md R27). -/
def execRdCount (s : State) : Outcome := s.readValue s.count

/-- RD.ACC, in either state (spec/10_state.md R23). -/
def execRdAcc (s : State) : Outcome := s.readValue s.acc

/-- RD.FOLD_LO (spec/10_state.md R24). -/
def execRdFoldLo (s : State) : Outcome := s.readValue s.foldLo

/-- RD.FOLD_HI (spec/10_state.md R24). -/
def execRdFoldHi (s : State) : Outcome := s.readValue s.foldHi

/-- RD.TAIL0 (spec/10_state.md R30). -/
def execRdTail0 (s : State) : Outcome := s.readValue s.tail0

/-- RD.TAIL1 (spec/10_state.md R30). -/
def execRdTail1 (s : State) : Outcome := s.readValue s.tail1

/-- RD.CONST (R65, R184). -/
def execRdConst (i : BitVec 3) (s : State) : Outcome := s.readValue (romConst i)

/-- RD.TABLE (R65, R184). -/
def execRdTable (i : BitVec 8) (s : State) : Outcome := s.readValue (romTable i)

/-- A command that passed the decode checks (spec/30_encoding.md R88, `case OP of`). -/
def execCommand (c : Command) (s : State) : Outcome :=
  match c with
  | .nop => execNop s
  | .init => execInit s
  | .update n => execUpdate n s
  | .finalize => execFinalize s
  | .clrerr => execClrerr s

/-- WR.CMD: `execute_command(w)` (R182; spec/30_encoding.md R88). A malformed word records its error and does nothing
else; the write completes with OKAY all the same (R214). -/
def execWrCmd (w : Word) (s : State) : Outcome :=
  match decodeCommandWord w with
  | .error e => .next (s.raiseCmdError e)
  | .ok c => execCommand c s

/-- WR.DATA0, in either state (R181). -/
def execWrData0 (v : Word) (s : State) : Outcome := .next ({ s with data0 := v }.respond (okay 0))

/-- WR.DATA1, in either state (R181). -/
def execWrData1 (v : Word) (s : State) : Outcome := .next ({ s with data1 := v }.respond (okay 0))

end Sys2Proof.Machine
end

