-- ==== Sys2Proof/Machine/Dispatch.lean ====
section
/-! DEFINITION. The meaning of every instruction of the opcode table, one arm each. -/

namespace Sys2Proof.Machine

def exec (i : Instr) (s : State) : Host.Outcome State Fault Refusal :=
  match i with
  | .nop => Sys2Proof.Machine.execNop s
  | .init => Sys2Proof.Machine.execInit s
  | .update n => Sys2Proof.Machine.execUpdate n s
  | .finalize => Sys2Proof.Machine.execFinalize s
  | .clrerr => Sys2Proof.Machine.execClrerr s
  | .rdId => Sys2Proof.Machine.execRdId s
  | .rdStatus => Sys2Proof.Machine.execRdStatus s
  | .rdData0 => Sys2Proof.Machine.execRdData0 s
  | .rdData1 => Sys2Proof.Machine.execRdData1 s
  | .rdResult => Sys2Proof.Machine.execRdResult s
  | .rdCount => Sys2Proof.Machine.execRdCount s
  | .rdAcc => Sys2Proof.Machine.execRdAcc s
  | .rdFoldLo => Sys2Proof.Machine.execRdFoldLo s
  | .rdFoldHi => Sys2Proof.Machine.execRdFoldHi s
  | .rdTail0 => Sys2Proof.Machine.execRdTail0 s
  | .rdTail1 => Sys2Proof.Machine.execRdTail1 s
  | .rdConst k => Sys2Proof.Machine.execRdConst k s
  | .rdTable k => Sys2Proof.Machine.execRdTable k s
  | .wrCmd w => Sys2Proof.Machine.execWrCmd w s
  | .wrData0 v => Sys2Proof.Machine.execWrData0 v s
  | .wrData1 v => Sys2Proof.Machine.execWrData1 v s

end Sys2Proof.Machine
end

