-- ==== Sys2Proof/Machine/Bus.lean ====
section
/-! DEFINITION. How the core takes what the host sends: one access decided in the order of spec/20_memory.md R56, and
the reset event (spec/60_exceptions.md R217; spec/70_reset_and_hazards.md R240). -/

namespace Sys2Proof.Machine

/-- `access(dir, off, size, wdata)` (R56): a refused access records its error and answers ERROR, any other runs the
access form it decodes to. -/
def performAccess (a : Access) (s : State) : Outcome :=
  match decodeAccess a with
  | .error e => .next (s.raiseBusError e)
  | .ok i => exec i s

/-- The reset event: every field at its reset value, whatever was in progress. An access in progress has no effect and
gets no response (R217); the events still to come stay, and the record of responses starts afresh (spec
70_reset_and_hazards.md R248; log 5). -/
def resetEvent (s : State) : State := { State.reset with pending := s.pending }

/-- One host event. -/
def handleEvent (e : HostEvent) (s : State) : Outcome :=
  match e with
  | .access a => performAccess a s
  | .reset _ => .next (resetEvent s)

/-- One step: the oldest pending event, decided whole before the next (R58, R59). With none pending the core does
nothing (spec/70_reset_and_hazards.md R241). -/
def stepCore (s : State) : Outcome :=
  match s.pending with
  | [] => .next s
  | e :: rest => handleEvent e { s with pending := rest }

/-- The host sends one more event, after those already pending. -/
def State.enqueue (s : State) (e : HostEvent) : State := { s with pending := s.pending ++ [e] }

end Sys2Proof.Machine
end

