-- ==== Sys2Proof/Machine/Step.lean ====
section
/-! DEFINITION. The step of the machine, and where it finds its next instruction: the core fetches nothing, and its
next instruction is the oldest host access that is pending (spec/10_state.md R21; spec/20_memory.md R59; log 10). -/

namespace Sys2Proof.Machine

/-- One step of the core. -/
def step (s : State) : Host.Outcome State Fault Refusal := stepCore s

/-- `s` with the access that carries the word `w` of an opcode-table row of `nbits` bits as the next host event: an
8-byte write of `w` to CMD for a command word, the access with code `w` (data 0) for an access form (log 10). -/
def State.withFetchWord (s : State) (nbits w : Nat) : State :=
  { s with pending := .access (Encoding.ofTableWord nbits w).toAccess :: s.pending }

end Sys2Proof.Machine
end

