-- ==== Sys2Proof/Machine/HostProgram.lean ====
section
/-! DEFINITION. Host program notation (spec/30_encoding.md R90 to R93): one access a line, and the pseudo-instructions
that expand to lines. It adds nothing to the machine. -/

namespace Sys2Proof.Machine

/-- A line of R90: `W <reg>, <imm64>` or `R <reg>`; `R CONST[i]` and `R TABLE[i]` are reads of the ROM windows. -/
inductive HostLine where
  | write (r : RegName) (v : Word)
  | read (r : RegName)
  deriving DecidableEq, Repr

/-- The access a line stands for (R90). -/
def HostLine.toAccess : HostLine → Access
  | .write r v => busWrite (offsetOf r) v
  | .read r => busRead (offsetOf r)

/-- `NOP` (R91). -/
def nopLine : HostLine := .write .cmd 0x0

/-- `INIT` (R91). -/
def initLine : HostLine := .write .cmd 0x1

/-- `UPDATE n`, for n of 0 to 16 (R91). -/
def updateLine (n : Nat) : HostLine := .write .cmd (0x2 + (BitVec.ofNat 64 n <<< 8))

/-- `FINAL` (R91). -/
def finalLine : HostLine := .write .cmd 0x3

/-- `CLRERR` (R91). -/
def clrerrLine : HostLine := .write .cmd 0x4

/-- The lines for one chunk of 1 to 16 bytes: W DATA0, W DATA1 only when it has more than 8 bytes, UPDATE (R92). -/
def chunkLines (c : List Byte) : List HostLine :=
  [.write .data0 (packLanes 64 (c.take 8))] ++
    (if 8 < c.length then [.write .data1 (packLanes 64 (c.drop 8))] else []) ++ [updateLine c.length]

/-- At most `fuel` chunks of 16 bytes, the last one shorter (R92). -/
def feedChunks : Nat → List Byte → List HostLine
  | 0, _ => []
  | _ + 1, [] => []
  | fuel + 1, b :: bs => chunkLines ((b :: bs).take 16) ++ feedChunks fuel ((b :: bs).drop 16)

/-- `FEED "<bytes>"` (R92); there are no more chunks than bytes. -/
def feedLines (bytes : List Byte) : List HostLine := feedChunks bytes.length bytes

/-- `CRC "<bytes>"`: INIT, FEED, FINAL, R RESULT (R93). -/
def crcLines (bytes : List Byte) : List HostLine :=
  [initLine] ++ feedLines bytes ++ [finalLine, .read .result]

/-- Lines as the events the core receives. -/
def hostEvents (ls : List HostLine) : List HostEvent := ls.map fun l => .access l.toAccess

end Sys2Proof.Machine
end

