-- ==== Sys2Proof/Machine/Platform.lean ====
section
/-! DEFINITION. Several instances of the core on one platform (spec/60_exceptions.md R221; spec/00_scope.md R8): each
has its own window and its own state, and they share nothing that changes. -/

namespace Sys2Proof.Machine

/-- The instances, by index. -/
structure Platform where
  instances : List State
  deriving DecidableEq, Repr

/-- N_INST instances, started together at reset (R221). -/
def Platform.reset : Platform := { instances := List.replicate Config.nInst State.reset }

/-- Whether the byte address `addr` lies in the window of instance `k` (spec/20_memory.md R51). -/
def inWindow (addr k : Nat) : Bool := Config.crcBase k ≤ addr && addr < Config.crcBase k + Config.windowBytes

/-- The instance whose window holds the byte address `addr`, with the offset in that window; an address in no window
reaches no core (R51, R220; log 6). -/
def route (addr : Nat) : Option (Nat × Offset) :=
  match (List.range Config.nInst).find? (inWindow addr) with
  | none => none
  | some k => some (k, BitVec.ofNat 12 (addr - Config.crcBase k))

/-- A host event sent to instance `k`. DESIGN CHOICE (log 18, unsafe): the event may be a reset, which then reaches
instance `k` alone while the others keep their state; R221 says only that instances start together at reset. A common
reset line is a reset sent to every instance. -/
def Platform.deliver (p : Platform) (k : Nat) (e : HostEvent) : Platform :=
  { instances := p.instances.modify k fun s => s.enqueue e }

/-- One step of instance `k`; the others do nothing (R221). -/
def Platform.stepInstance (p : Platform) (k : Nat) : Host.Outcome Platform Fault Refusal :=
  match p.instances[k]? with
  | none => .next p
  | some s =>
    match step s with
    | .next t => .next { instances := p.instances.set k t }
    | .fault f => .fault f
    | .refused r => .refused r

end Sys2Proof.Machine
end

