-- ==== Sys2Proof/Machine/Reference.lean ====
section
/-! DEFINITION. The bit-serial reference CRC and the table generator (spec/40_constants_rom.md R110, R115). No
instruction calls them: they are what every path through the core must agree with (R110). -/

namespace Sys2Proof.Machine

/-- One of the 8 shifts of R110: shift right, and XOR POLY_R in when a 1 leaves. -/
def crcShift (r : Word) : Word := if r.getLsbD 0 then (r >>> 1) ^^^ polyR else r >>> 1

/-- `n` shifts. -/
def crcShifts : Nat → Word → Word
  | 0, r => r
  | n + 1, r => crcShifts n (crcShift r)

/-- One byte of the bit-by-bit reflected CRC update (R110). -/
def crcByte (r : Word) (b : Byte) : Word := crcShifts 8 (r ^^^ b.setWidth 64)

/-- `crcreg(r0, S)`: the register after the bytes `S` from `r0` (R110). -/
def crcReg (r0 : Word) (bytes : List Byte) : Word := bytes.foldl crcByte r0

/-- `CRC64NVME(S)` (R110). -/
def crc64nvme (bytes : List Byte) : Word := crcReg initReg bytes ^^^ xorOut

/-- The table generator `T(i)` (R115). -/
def tableGen (i : BitVec 8) : Word := crcShifts 8 (i.setWidth 64)

end Sys2Proof.Machine
end

