-- ==== Sys2Proof/Safety.lean ====
section
/-! DEFINITION. The vocabulary of the claims: safe states, the invariants of spec/10_state.md R33, what an instruction
runs, the byte stream a list of host events feeds, and the digest relation of R34. Nothing here is part of the
machine. -/

namespace Sys2Proof

/-- The command an instruction executes once its word has passed the decode checks: itself for a command row, the
command of the word for WR.CMD, none for the other access forms and for a malformed word. -/
def Instr.runs : Instr → Option Command
  | .nop => some .nop
  | .init => some .init
  | .update n => some (.update n)
  | .finalize => some .finalize
  | .clrerr => some .clrerr
  | .wrCmd w =>
    match decodeCommandWord w with
    | .ok c => some c
    | .error _ => none
  | .rdId | .rdStatus | .rdData0 | .rdData1 | .rdResult | .rdCount | .rdAcc => none
  | .rdFoldLo | .rdFoldHi | .rdTail0 | .rdTail1 | .rdConst _ | .rdTable _ => none
  | .wrData0 _ | .wrData1 _ => none

/-- The instruction is an UPDATE, by its own row or by WR.CMD. -/
def Instr.isUpdate (i : Instr) : Bool :=
  match i.runs with
  | some (.update _) => true
  | some .nop | some .init | some .finalize | some .clrerr | none => false

/-- The instruction is a read form. -/
def Instr.isRead : Instr → Bool
  | .rdId | .rdStatus | .rdData0 | .rdData1 | .rdResult | .rdCount | .rdAcc => true
  | .rdFoldLo | .rdFoldHi | .rdTail0 | .rdTail1 | .rdConst _ | .rdTable _ => true
  | .nop | .init | .update _ | .finalize | .clrerr => false
  | .wrCmd _ | .wrData0 _ | .wrData1 _ => false

/-- The legal command an access carries, if any. -/
def Access.command (a : Access) : Option Command :=
  match decodeAccess a with
  | .ok i => i.runs
  | .error _ => none

namespace Machine

/-- A step from `s` neither faults nor refuses. -/
def Safe (s : State) : Prop := ∃ t, step s = .next t

/-- The invariants of spec/10_state.md R33, with (v) for the OPEN state only (log 3), and the bound of
spec/60_exceptions.md R210 on LAST_ERR. -/
abbrev State.Inv (s : State) : Prop :=
  s.tailLen ≤ 15 ∧
  (s.fv = false → s.fold = 0) ∧
  (s.phase = .finalized → s.fv = false ∧ s.fold = 0 ∧ s.tailLen = 0) ∧
  (s.phase = .opened → s.acc = 0xFFFFFFFFFFFFFFFF) ∧
  (s.phase = .opened → s.tailLen = s.count.toNat % 16) ∧
  (s.lastErr = 0 → s.errCmd = false ∧ s.errState = false ∧ s.errBus = false) ∧
  s.lastErr.toNat ≤ 7

/-- The six invariants of spec/10_state.md R33 as that rule writes them, (v) in every state. -/
abbrev State.Rule33 (s : State) : Prop :=
  s.tailLen ≤ 15 ∧
  (s.fv = false → s.fold = 0) ∧
  (s.phase = .finalized → s.fv = false ∧ s.fold = 0 ∧ s.tailLen = 0) ∧
  (s.phase = .opened → s.acc = 0xFFFFFFFFFFFFFFFF) ∧
  s.tailLen = s.count.toNat % 16 ∧
  (s.lastErr = 0 → s.errCmd = false ∧ s.errState = false ∧ s.errBus = false)

/-- The core with the host events `evs` pending after reset. -/
def State.resetWith (evs : List HostEvent) : State := { State.reset with pending := evs }

/-- `s` after an access that answers OKAY with `v` and has no other effect (spec/20_memory.md R56). -/
def State.answered (s : State) (v : Word) : State := { s with responses := s.responses ++ [⟨.okay, v⟩] }

/-- `s` after an access refused with the bus error `code`, 5 to 7 (spec/60_exceptions.md R210, R213). -/
def State.refusedOnBus (s : State) (code : BitVec 8) : State :=
  { s with errBus := true, lastErr := code, responses := s.responses ++ [⟨.error, 0⟩] }

/-- `s` after a write of CMD whose word is malformed, `code` 1 to 3 (R210, R213, R214). -/
def State.refusedCommand (s : State) (code : BitVec 8) : State :=
  { s with errCmd := true, lastErr := code, responses := s.responses ++ [⟨.okay, 0⟩] }

/-- `s` after an UPDATE refused with STATE_UPDATE_AFTER_FINAL, code 4 (R210, R213, R214). -/
def State.refusedUpdate (s : State) : State :=
  { s with errState := true, lastErr := 4, responses := s.responses ++ [⟨.okay, 0⟩] }

/-- An 8-byte write at `off` is refused with BUS_DIR and changes nothing else: the register there is read-only
(spec/20_memory.md R55, R56). -/
def RefusesWrites (off : Offset) : Prop :=
  ∀ s rest v, s.pending = .access (busWrite off v) :: rest →
    step s = .next ({ s with pending := rest }.refusedOnBus 7)

/-- Some run from reset, under some sequence of host events, ends in `s`. -/
def Reachable (s : State) : Prop := ∃ evs k, Host.Core.run Sys2Proof.core k (State.resetWith evs) = .next s

/-- The event neither restarts nor ends a stream: no reset, no legal INIT, no legal FINALIZE. Any other access may be
one, refused ones included (spec/42_digest_commands.md R180). -/
def keepsStream : HostEvent → Bool
  | .reset _ => false
  | .access a =>
    match a.command with
    | some .init | some .finalize => false
    | some .nop | some (.update _) | some .clrerr | none => true

/-- The stream bytes an access feeds when the staging registers hold `d0` and `d1`. -/
def fedBytes (d0 d1 : Word) (a : Access) : List Byte :=
  match a.command with
  | some (.update n) => laneBytes d0 d1 n.toNat
  | some .nop | some .init | some .finalize | some .clrerr | none => []

/-- DATA0 after an access. -/
def data0After (d0 : Word) (a : Access) : Word :=
  match decodeAccess a with
  | .ok (.wrData0 v) => v
  | .ok _ | .error _ => d0

/-- DATA1 after an access. -/
def data1After (d1 : Word) (a : Access) : Word :=
  match decodeAccess a with
  | .ok (.wrData1 v) => v
  | .ok _ | .error _ => d1

/-- The byte stream that events which keep the stream feed, from staging registers `d0` and `d1`. -/
def streamOf (d0 d1 : Word) : List HostEvent → List Byte
  | [] => []
  | .reset _ :: es => streamOf 0 0 es
  | .access a :: es => fedBytes d0 d1 a ++ streamOf (data0After d0 a) (data1After d1 a) es

/-- The longest prefix of `S` whose length is a multiple of 16 (spec/10_state.md R34, `B`). -/
def blockPrefix (S : List Byte) : List Byte := S.take (16 * (S.length / 16))

/-- The bytes of `S` after that prefix (R34, `T`). -/
def tailOf (S : List Byte) : List Byte := S.drop (16 * (S.length / 16))

/-- The digest of `s` stands for the stream `S` (R23, R24, R26, R27, R34): OPEN, ACC still INIT, the pending tail is the
part of `S` after its last complete block, and FOLD reduces to the CRC register after the complete blocks. -/
def State.Represents (s : State) (S : List Byte) : Prop :=
  s.phase = .opened ∧ s.acc = initReg ∧ s.count = BitVec.ofNat 64 S.length ∧ s.tail = tailOf S ∧
  (s.fv = false → blockPrefix S = [] ∧ s.fold = 0) ∧
  (s.fv = true → blockPrefix S ≠ [] ∧ reduce s.fold = crcReg initReg (blockPrefix S))

/-- FOLD after the blocks `vs` that follow a first block already absorbed (spec/41_datapath.md R150). -/
def foldBlocks (f : Block) (vs : List Block) : Block := vs.foldl foldStep f

/-- The bytes of a list of blocks, in stream order. -/
def blocksBytes (vs : List Block) : List Byte := vs.flatMap blockBytes

end Machine

end Sys2Proof
end

