-- ==== Sys2Proof/Safety/PolyView.lean ====
section
/-! DEFINITION. The polynomial view of spec/00_scope.md R12 and R13, over Mathlib's polynomials with coefficients in
GF(2). "This view does not add state. It is how the correctness invariants of 41_datapath.md are stated." The machine
does not use it. -/

namespace Sys2Proof.Machine

/-- GF(2)[x] (R12). -/
abbrev GF2Poly := Polynomial (ZMod 2)

/-- The monomial x^n when the bit is set. -/
noncomputable def bitTerm (b : Bool) (n : Nat) : GF2Poly := if b then Polynomial.X ^ n else 0

/-- `poly64(v)`: bit i is the coefficient of x^(63-i) (R12). -/
noncomputable def poly64 (v : Word) : GF2Poly := ∑ i ∈ Finset.range 64, bitTerm (v.getLsbD i) (63 - i)

/-- `poly128(V)`: bit i is the coefficient of x^(127-i) (R12). -/
noncomputable def poly128 (v : Block) : GF2Poly := ∑ i ∈ Finset.range 128, bitTerm (v.getLsbD i) (127 - i)

/-- `poly_normal(w)`: bit i is the coefficient of x^i (R12). -/
noncomputable def polyNormal (w : Word) : GF2Poly := ∑ i ∈ Finset.range 64, bitTerm (w.getLsbD i) i

/-- The generator `P(x) = x^64 + poly_normal(POLY_N)` (R12, R111). -/
noncomputable def genPoly : GF2Poly := Polynomial.X ^ 64 + polyNormal polyN

/-- The message polynomial `M(x)` of a byte stream (R13). -/
noncomputable def msgPoly (S : List Byte) : GF2Poly :=
  ∑ k ∈ Finset.range S.length, ∑ j ∈ Finset.range 8,
    bitTerm ((S.getD k 0).getLsbD j) (8 * (S.length - 1 - k) + 7 - j)

end Sys2Proof.Machine
end

