-- ==== Sys2Proof/Certificates/Slice0/Obligations.lean ====
section
/-! DEFINITION. The statements for the provers. Each docstring names the rule of spec/ that it formalises. A next state
is written as the old state with the fields that change, so every such equation is the result, the completion and the
frame of the instruction at once. The fields `pending` and `responses`, which carry the accesses and the answers of the
rules, are the model's own (logs 1 and 2). -/

open Sys2Proof Sys2Proof.Machine

/-! ### Encoding -/

/-- Decoding the encoding of a well-formed instruction gives it back, with every operand (R80 to R89; derived). -/
def Obligations.DecodeOfEncodeIsIdentity : Prop :=
  ∀ i : Instr, i.WellFormed → decode (encode i) = .ok i

/-- Each legal word has one meaning: what decodes to `i` is the encoding of `i`, which is well formed; a read form
ignores the data (R80 to R89; derived). -/
def Obligations.EncodeOfDecodeIsIdentity : Prop :=
  ∀ (e : Encoding) (i : Instr), decode e = .ok i →
    i.WellFormed ∧
    ((i.isRead = false ∧ encode i = e) ∨
      (i.isRead = true ∧ ∃ code v, e = .access code v ∧ encode i = .access code 0))

/-- Words written out from the tables of R83 and R89 decode to the instructions they stand for (derived). -/
def Obligations.SpecWordsDecode : Prop :=
  decode (.command 0x0000000000000000) = .ok .nop ∧
  decode (.command 0x0000000000000001) = .ok .init ∧
  decode (.command 0x0000000000000902) = .ok (.update 9) ∧
  decode (.command 0x0000000000001002) = .ok (.update 16) ∧
  decode (.command 0x0000000000000003) = .ok .finalize ∧
  decode (.command 0x0000000000000004) = .ok .clrerr ∧
  decode (.access 0x0010 0) = .ok .rdStatus ∧
  decode (.access 0x0438 0) = .ok (.rdConst 7) ∧
  decode (.access 0x0C00 0) = .ok (.rdTable 0x80) ∧
  decode (.access 0x1008 0x3) = .ok (.wrCmd 0x3) ∧
  decode (.access 0x1018 0x3837363534333231) = .ok (.wrData0 0x3837363534333231) ∧
  decode (.access 0x1020 0x39) = .ok (.wrData1 0x39)

/-- The opcode map R83: which words select which command, the 17 words of UPDATE among them, and every other OP is
illegal. -/
def Obligations.OpcodeMapSelectsCommands : Prop :=
  ∀ w : Word,
    (decodeCommandWord w = .ok .nop ↔ w = 0x0000000000000000) ∧
    (decodeCommandWord w = .ok .init ↔ w = 0x0000000000000001) ∧
    (decodeCommandWord w = .ok .finalize ↔ w = 0x0000000000000003) ∧
    (decodeCommandWord w = .ok .clrerr ↔ w = 0x0000000000000004) ∧
    (∀ n : BitVec 5, decodeCommandWord w = .ok (.update n) ↔
      n.toNat ≤ 16 ∧ w = 0x0000000000000002 + (n.setWidth 64 <<< 8)) ∧
    ((∃ n, decodeCommandWord w = .ok (.update n)) ↔
      w &&& 0xFFFFFFFFFFFFE0FF = 0x0000000000000002 ∧ (w.extractLsb' 8 5).toNat ≤ 16) ∧
    (5 ≤ (w.extractLsb' 0 8).toNat → decodeCommandWord w = .error .cmdOpcode)

/-- The access codes of R89: which code selects which form, with the masks of the ROM windows, and every other code is
refused with a code of 5 to 7. -/
def Obligations.AccessCodesSelectForms : Prop :=
  ∀ (a : AccessCode) (v : Word),
    (decodeAccess (Access.ofCode a v) = .ok .rdId ↔ a = 0x0000) ∧
    (decodeAccess (Access.ofCode a v) = .ok .rdStatus ↔ a = 0x0010) ∧
    (decodeAccess (Access.ofCode a v) = .ok .rdData0 ↔ a = 0x0018) ∧
    (decodeAccess (Access.ofCode a v) = .ok .rdData1 ↔ a = 0x0020) ∧
    (decodeAccess (Access.ofCode a v) = .ok .rdResult ↔ a = 0x0028) ∧
    (decodeAccess (Access.ofCode a v) = .ok .rdCount ↔ a = 0x0030) ∧
    (decodeAccess (Access.ofCode a v) = .ok .rdAcc ↔ a = 0x0038) ∧
    (decodeAccess (Access.ofCode a v) = .ok .rdFoldLo ↔ a = 0x0040) ∧
    (decodeAccess (Access.ofCode a v) = .ok .rdFoldHi ↔ a = 0x0048) ∧
    (decodeAccess (Access.ofCode a v) = .ok .rdTail0 ↔ a = 0x0050) ∧
    (decodeAccess (Access.ofCode a v) = .ok .rdTail1 ↔ a = 0x0058) ∧
    (∀ i, decodeAccess (Access.ofCode a v) = .ok (.rdConst i) ↔
      a &&& 0x1FC7 = 0x0400 ∧ i = a.extractLsb' 3 3) ∧
    (∀ i, decodeAccess (Access.ofCode a v) = .ok (.rdTable i) ↔
      a &&& 0x1807 = 0x0800 ∧ i = a.extractLsb' 3 8) ∧
    (∀ w, decodeAccess (Access.ofCode a v) = .ok (.wrCmd w) ↔ a = 0x1008 ∧ w = v) ∧
    (∀ w, decodeAccess (Access.ofCode a v) = .ok (.wrData0 w) ↔ a = 0x1018 ∧ w = v) ∧
    (∀ w, decodeAccess (Access.ofCode a v) = .ok (.wrData1 w) ↔ a = 0x1020 ∧ w = v) ∧
    (∀ i, decodeAccess (Access.ofCode a v) = .ok i →
      i ≠ .nop ∧ i ≠ .init ∧ (∀ n, i ≠ .update n) ∧ i ≠ .finalize ∧ i ≠ .clrerr) ∧
    (∀ e, decodeAccess (Access.ofCode a v) = .error e → e = .busAlign ∨ e = .busUnmapped ∨ e = .busDir)

/-! ### The step -/

/-- A step runs the access it finds: the decoded form with the event taken off the list, or the refusal of the bus
(R56, R58, R59; derived; the list of events is the model's choice, log 1). -/
def Obligations.StepRunsDecodedAccess : Prop :=
  ∀ (s : State) (a : Access) (rest : List HostEvent), s.pending = .access a :: rest →
    (∀ i, decodeAccess a = .ok i → step s = exec i { s with pending := rest }) ∧
    (∀ e, decodeAccess a = .error e → step s = .next ({ s with pending := rest }.refusedOnBus e.code))

/-- Every well-formed instruction, delivered in its encoding, is what the next step runs, commands through the write of
CMD included (R80, R88, R89; derived). -/
def Obligations.StepRunsEncodedInstruction : Prop :=
  ∀ (i : Instr) (s : State) (rest : List HostEvent), i.WellFormed →
    s.pending = .access (encode i).toAccess :: rest → step s = exec i { s with pending := rest }

/-- The word of an opcode-table row, placed by `withFetchWord`, is what the next step runs (derived; log 10). -/
def Obligations.TableWordRunsItsRow : Prop :=
  ∀ (s : State) (nbits w : Nat) (i : Instr), decodeTableWord nbits w = some i →
    step (s.withFetchWord nbits w) = exec i s

/-- No behaviour is stuck: every step of every state has an outcome, and with no event pending nothing changes
(93_implementation_defined.md, R241; derived). -/
def Obligations.NoStepIsStuck : Prop :=
  (∀ s : State, Safe s) ∧ (∀ s : State, s.pending = [] → step s = .next s)

/-- The reset event puts every register at its value of R36 whatever the state and whatever was in progress, and every
view then reads as R36 says (R217, R240; derived); that the events still to come stay pending is the model's choice
(log 5). -/
def Obligations.ResetEventRestoresEveryRegister : Prop :=
  ∀ (s : State) (q : Option Access) (rest : List HostEvent), s.pending = .reset q :: rest →
    ∃ t, step s = .next t ∧
      t.phase = .opened ∧ t.acc = 0xFFFFFFFFFFFFFFFF ∧ t.fold = 0 ∧ t.fv = false ∧ t.tail = [] ∧ t.count = 0 ∧
      t.data0 = 0 ∧ t.data1 = 0 ∧ t.errCmd = false ∧ t.errState = false ∧ t.errBus = false ∧ t.lastErr = 0 ∧
      t.status = 0 ∧ t.result = 0 ∧ t.tail0 = 0 ∧ t.tail1 = 0 ∧ t.foldLo = 0 ∧ t.foldHi = 0 ∧ t.pending = rest

/-! ### Malformed commands and refused accesses -/

/-- R84: OP in 0x05 to 0xFF raises CMD_OPCODE, whatever the other bits, and changes nothing else. -/
def Obligations.IllegalOpcodeIsRecorded : Prop :=
  ∀ (w : Word) (s : State), 5 ≤ (w.extractLsb' 0 8).toNat → exec (.wrCmd w) s = .next (s.refusedCommand 1)

/-- R86: reserved bits set, or LEN set where OP is not UPDATE, raise CMD_RSVD and change nothing else. -/
def Obligations.ReservedBitsAreRecorded : Prop :=
  ∀ (w : Word) (s : State), (w.extractLsb' 0 8).toNat ≤ 4 →
    (w.extractLsb' 13 51 ≠ 0 ∨ (w.extractLsb' 0 8 ≠ 0x02 ∧ w.extractLsb' 8 5 ≠ 0)) →
    exec (.wrCmd w) s = .next (s.refusedCommand 2)

/-- R87: for OP = 0x02 with RSVD = 0, LEN of 17 or more raises CMD_LEN and changes nothing else; LEN = 0 is legal and,
while OPEN, changes nothing. -/
def Obligations.LenRangeIsChecked : Prop :=
  ∀ (w : Word) (s : State), w.extractLsb' 0 8 = 0x02 → w.extractLsb' 13 51 = 0 →
    (17 ≤ (w.extractLsb' 8 5).toNat → exec (.wrCmd w) s = .next (s.refusedCommand 3)) ∧
    (w.extractLsb' 8 5 = 0 → s.phase = .opened → exec (.wrCmd w) s = .next (s.answered 0))

/-- R212 and R214: which error an access raises when several causes apply, in the order of R212, with its response; an
access with none of these causes raises no error. -/
def Obligations.ErrorPriorityAndResponse : Prop :=
  ∀ (s : State) (a : Access) (rest : List HostEvent), s.pending = .access a :: rest →
    let s0 := { s with pending := rest }
    let off := a.off.toNat
    let op := (a.wdata.extractLsb' 0 8).toNat
    let len := (a.wdata.extractLsb' 8 5).toNat
    let rsvd := a.wdata.extractLsb' 13 51
    let misaligned := a.size ≠ 8 ∨ off % 8 ≠ 0
    let unmapped := (0x060 ≤ off ∧ off ≤ 0x3F8) ∨ (0x440 ≤ off ∧ off ≤ 0x7F8)
    let wrongDir := (a.dir = .read ∧ off = 0x008) ∨
      (a.dir = .write ∧ off ≠ 0x008 ∧ off ≠ 0x018 ∧ off ≠ 0x020)
    let toCmd := a.dir = .write ∧ off = 0x008
    (misaligned → step s = .next (s0.refusedOnBus 5)) ∧
    (¬misaligned → unmapped → step s = .next (s0.refusedOnBus 6)) ∧
    (¬misaligned → ¬unmapped → wrongDir → step s = .next (s0.refusedOnBus 7)) ∧
    (¬misaligned → toCmd → 5 ≤ op → step s = .next (s0.refusedCommand 1)) ∧
    (¬misaligned → toCmd → op ≤ 4 → (rsvd ≠ 0 ∨ (op ≠ 2 ∧ len ≠ 0)) → step s = .next (s0.refusedCommand 2)) ∧
    (¬misaligned → toCmd → op = 2 → rsvd = 0 → 17 ≤ len → step s = .next (s0.refusedCommand 3)) ∧
    (¬misaligned → toCmd → op = 2 → rsvd = 0 → len ≤ 16 → s.phase = .finalized →
      step s = .next s0.refusedUpdate) ∧
    (¬misaligned → ¬unmapped → ¬wrongDir →
      (toCmd → op ≤ 4 ∧ rsvd = 0 ∧ (op ≠ 2 → len = 0) ∧ (op = 2 → len ≤ 16 ∧ s.phase = .opened)) →
      ∃ t v, step s = .next t ∧ t.responses = s.responses ++ [⟨.okay, v⟩] ∧
        ((t.errCmd = s.errCmd ∧ t.errState = s.errState ∧ t.errBus = s.errBus ∧ t.lastErr = s.lastErr) ∨
          (t.errCmd = false ∧ t.errState = false ∧ t.errBus = false ∧ t.lastErr = 0)))

/-- R57: an access of a size other than 8, or at an offset that is no multiple of 8, is refused with BUS_ALIGN and no
part of it is performed; an aligned access of 8 bytes is not. -/
def Obligations.MisalignedAccessIsRefused : Prop :=
  ∀ (s : State) (a : Access) (rest : List HostEvent), s.pending = .access a :: rest →
    ((a.size ≠ 8 ∨ a.off.toNat % 8 ≠ 0) → step s = .next ({ s with pending := rest }.refusedOnBus 5)) ∧
    (a.size = 8 → a.off.toNat % 8 = 0 → step s ≠ .next ({ s with pending := rest }.refusedOnBus 5))

/-- R213: an access or command that raises code e sets the flag of its class and LAST_ERR, overwriting any earlier code,
and does nothing else. -/
def Obligations.RecordErrorIsPrecise : Prop :=
  (∀ (s : State) (a : Access) (rest : List HostEvent) (e : ErrCode), s.pending = .access a :: rest →
    decodeAccess a = .error e → step s =
      .next { { s with pending := rest }.recordError e with responses := s.responses ++ [⟨.error, 0⟩] }) ∧
  (∀ (w : Word) (s : State) (e : ErrCode), decodeCommandWord w = .error e →
    exec (.wrCmd w) s = .next ((s.recordError e).answered 0)) ∧
  (∀ (n : BitVec 5) (s : State), n.toNat ≤ 16 → s.phase = .finalized →
    exec (.update n) s = .next ((s.recordError .stateUpdateAfterFinal).answered 0)) ∧
  ∀ (s : State) (e : ErrCode),
    (1 ≤ e.code.toNat ∧ e.code.toNat ≤ 3 → s.recordError e = { s with errCmd := true, lastErr := e.code }) ∧
    (e.code.toNat = 4 → s.recordError e = { s with errState := true, lastErr := e.code }) ∧
    (5 ≤ e.code.toNat ∧ e.code.toNat ≤ 7 → s.recordError e = { s with errBus := true, lastErr := e.code }) ∧
    (1 ≤ e.code.toNat ∧ e.code.toNat ≤ 7)

/-- R215: the error record stays until CLRERR or reset, INIT included; a further error adds its flag and overwrites
LAST_ERR; a set flag blocks nothing, so every instruction but the read of STATUS does the same whatever the record. -/
def Obligations.ErrorRecordAccumulates : Prop :=
  (∀ (s t : State) (a : Access) (rest : List HostEvent), s.pending = .access a :: rest →
    a.command ≠ some .clrerr → step s = .next t →
    (t.errCmd = s.errCmd ∧ t.errState = s.errState ∧ t.errBus = s.errBus ∧ t.lastErr = s.lastErr) ∨
    (∃ e : ErrCode, t.errCmd = (s.errCmd || e.setsErrCmd) ∧ t.errState = (s.errState || e.setsErrState) ∧
      t.errBus = (s.errBus || e.setsErrBus) ∧ t.lastErr = e.code)) ∧
  (∀ (s : State) (rest : List HostEvent),
    ((∃ a, s.pending = .access a :: rest ∧ a.command = some .clrerr) ∨ (∃ q, s.pending = .reset q :: rest)) →
    ∃ t, step s = .next t ∧ t.errCmd = false ∧ t.errState = false ∧ t.errBus = false ∧ t.lastErr = 0) ∧
  (∀ (i : Instr) (s t t' : State) (c st b : Bool) (l : BitVec 8), i ≠ .rdStatus → exec i s = .next t →
    exec i { s with errCmd := c, errState := st, errBus := b, lastErr := l } = .next t' →
    t' = { t with errCmd := t'.errCmd, errState := t'.errState, errBus := t'.errBus, lastErr := t'.lastErr })

/-! ### Host access forms -/

/-- R181: WR.DATA0 and WR.DATA1 stage their value in either state and change nothing else; an access at their offsets
that is not 8 bytes is refused with BUS_ALIGN. -/
def Obligations.WriteDataStagesItsValue : Prop :=
  (∀ (v : Word) (s : State), exec (.wrData0 v) s = .next ({ s with data0 := v }.answered 0)) ∧
  (∀ (v : Word) (s : State), exec (.wrData1 v) s = .next ({ s with data1 := v }.answered 0)) ∧
  (∀ (s : State) (a : Access) (rest : List HostEvent), s.pending = .access a :: rest → a.dir = .write →
    (a.off = 0x018 ∨ a.off = 0x020) → a.size ≠ 8 → step s = .next ({ s with pending := rest }.refusedOnBus 5))

/-- R182: WR.CMD runs the command of its word; a malformed word only records its error; the response is OKAY either
way; a write of CMD that is not 8 bytes is refused with BUS_ALIGN and its command is not executed. -/
def Obligations.WriteCmdExecutesItsWord : Prop :=
  (∀ (w : Word) (s : State) (c : Command), decodeCommandWord w = .ok c →
    ∃ t, exec (.wrCmd w) s = .next t ∧ exec c.toInstr s = .next t ∧ t.responses = s.responses ++ [⟨.okay, 0⟩]) ∧
  (∀ (w : Word) (s : State) (e : ErrCode), decodeCommandWord w = .error e →
    1 ≤ e.code.toNat ∧ e.code.toNat ≤ 3 ∧ exec (.wrCmd w) s = .next (s.refusedCommand e.code)) ∧
  (∀ (s : State) (a : Access) (rest : List HostEvent), s.pending = .access a :: rest → a.dir = .write →
    a.off = 0x008 → a.size ≠ 8 → step s = .next ({ s with pending := rest }.refusedOnBus 5))

/-- R183: each register read answers OKAY with the register's value and has no effect; a read of another size or
misaligned is BUS_ALIGN, a read of CMD is BUS_DIR. -/
def Obligations.RegisterReadsAnswerTheValue : Prop :=
  (∀ s : State,
    exec .rdId s = .next (s.answered 0x4D564E3436435243) ∧
    exec .rdStatus s = .next (s.answered s.status) ∧
    exec .rdData0 s = .next (s.answered s.data0) ∧
    exec .rdData1 s = .next (s.answered s.data1) ∧
    exec .rdResult s = .next (s.answered (if s.phase = .finalized then s.acc else 0)) ∧
    exec .rdCount s = .next (s.answered s.count) ∧
    exec .rdAcc s = .next (s.answered s.acc) ∧
    exec .rdFoldLo s = .next (s.answered (s.fold.extractLsb' 0 64)) ∧
    exec .rdFoldHi s = .next (s.answered (s.fold.extractLsb' 64 64)) ∧
    exec .rdTail0 s = .next (s.answered s.tail0) ∧
    exec .rdTail1 s = .next (s.answered s.tail1)) ∧
  (∀ (s : State) (a : Access) (rest : List HostEvent), s.pending = .access a :: rest → a.dir = .read →
    ((a.size ≠ 8 ∨ a.off.toNat % 8 ≠ 0) → step s = .next ({ s with pending := rest }.refusedOnBus 5)) ∧
    (a.size = 8 → a.off = 0x008 → step s = .next ({ s with pending := rest }.refusedOnBus 7)))

/-- R65 and R184: a read in the ROM windows answers the ROM word whatever the state and changes nothing; a bad size or
a misaligned offset there is BUS_ALIGN, a write is BUS_DIR. -/
def Obligations.RomReadsAnswerTheWord : Prop :=
  (∀ (i : BitVec 3) (s : State), exec (.rdConst i) s = .next (s.answered (romConst i))) ∧
  (∀ (i : BitVec 8) (s : State), exec (.rdTable i) s = .next (s.answered (romTable i))) ∧
  (∀ (i : BitVec 3) (s : State) (rest : List HostEvent),
    s.pending = .access (busRead (0x400 + 8 * i.setWidth 12)) :: rest →
    step s = .next ({ s with pending := rest }.answered (romConst i))) ∧
  (∀ (i : BitVec 8) (s : State) (rest : List HostEvent),
    s.pending = .access (busRead (0x800 + 8 * i.setWidth 12)) :: rest →
    step s = .next ({ s with pending := rest }.answered (romTable i))) ∧
  (∀ i : BitVec 3, RefusesWrites (0x400 + 8 * i.setWidth 12)) ∧
  (∀ i : BitVec 8, RefusesWrites (0x800 + 8 * i.setWidth 12)) ∧
  (∀ (s : State) (a : Access) (rest : List HostEvent), s.pending = .access a :: rest →
    ((0x400 ≤ a.off.toNat ∧ a.off.toNat ≤ 0x43F) ∨ 0x800 ≤ a.off.toNat) → (a.size ≠ 8 ∨ a.off.toNat % 8 ≠ 0) →
    step s = .next ({ s with pending := rest }.refusedOnBus 5))

/-- R58: one step decides one whole access; reads have no side effect and repeat their value; a repeated write of DATA0 or DATA1 changes nothing; two
INITs or two FINALIZEs have the effect of one; two UPDATEs feed the staged bytes twice. -/
def Obligations.RepeatedAccesses : Prop :=
  (∀ (s t : State) (a : Access) (rest : List HostEvent), s.pending = .access a :: rest → step s = .next t →
    t.pending = rest ∧ ∃ r, t.responses = s.responses ++ [r]) ∧
  (∀ (i : Instr) (s : State), i.isRead = true →
    ∃ v, exec i s = .next (s.answered v) ∧ exec i (s.answered v) = .next ((s.answered v).answered v)) ∧
  (∀ (v : Word) (s t : State), exec (.wrData0 v) s = .next t → exec (.wrData0 v) t = .next (t.answered 0)) ∧
  (∀ (v : Word) (s t : State), exec (.wrData1 v) s = .next t → exec (.wrData1 v) t = .next (t.answered 0)) ∧
  (∀ s t : State, exec .init s = .next t → exec .init t = .next (t.answered 0)) ∧
  (∀ s t : State, exec .finalize s = .next t → exec .finalize t = .next (t.answered 0)) ∧
  (∀ (n : BitVec 5) (s t : State), n.toNat ≤ 16 → s.phase = .opened → exec (.update n) s = .next t →
    exec (.update n) t = .next (((s.pushAll (s.stagedBytes n.toNat ++ s.stagedBytes n.toNat)).answered 0).answered 0))

/-! ### Register views -/

/-- R25: the fields of STATUS, bit range by bit range, in every state whose tail holds at most 15 bytes; STATUS is
read-only and reads 0 after reset; LAST_ERR is a code from 0 to 7 under the invariant of StepKeepsInvariant. -/
def Obligations.StatusFields : Prop :=
  (∀ s : State, s.tailLen ≤ 15 →
    s.status.extractLsb' 0 2 = (if s.phase = .finalized then 1 else 0) ∧
    s.status.getLsbD 2 = s.fv ∧
    s.status.extractLsb' 3 5 = 0 ∧
    (s.status.extractLsb' 8 4).toNat = s.tail.length ∧
    s.status.extractLsb' 12 4 = 0 ∧
    s.status.getLsbD 16 = s.errCmd ∧
    s.status.getLsbD 17 = s.errState ∧
    s.status.getLsbD 18 = s.errBus ∧
    s.status.extractLsb' 19 5 = 0 ∧
    s.status.extractLsb' 24 8 = s.lastErr ∧
    s.status.extractLsb' 32 32 = 0) ∧
  (∀ s : State, s.Inv → (s.status.extractLsb' 24 8).toNat ≤ 7) ∧
  RefusesWrites 0x010 ∧ State.reset.status = 0

/-- R30: lane k of TAIL0 is pending byte k, lane k of TAIL1 is pending byte 8 + k, 0 where there is none; TAIL1[63:56]
reads 0; both are read-only and read 0 after reset. -/
def Obligations.TailViews : Prop :=
  (∀ (s : State) (k : Nat), s.tailLen ≤ 15 → k < 8 →
    s.tail0.extractLsb' (8 * k) 8 = s.tail.getD k 0 ∧
    s.tail1.extractLsb' (8 * k) 8 = s.tail.getD (8 + k) 0 ∧
    s.tail1.extractLsb' 56 8 = 0) ∧
  RefusesWrites 0x050 ∧ RefusesWrites 0x058 ∧ State.reset.tail0 = 0 ∧ State.reset.tail1 = 0

/-- R31: RESULT is ACC when FINALIZED and 0 otherwise, so 0 after reset and after INIT; it is read-only; STATUS.STATE
tells a checksum of 0 from no checksum. -/
def Obligations.ResultView : Prop :=
  (∀ s : State, (s.phase = .finalized → s.result = s.acc) ∧ (s.phase = .opened → s.result = 0)) ∧
  State.reset.result = 0 ∧
  (∀ s t : State, exec .init s = .next t → t.result = 0) ∧
  (∀ s : State, s.status.getLsbD 0 = true ↔ s.phase = .finalized) ∧
  RefusesWrites 0x028

/-- R32: ID reads 0x4D564E3436435243 in every state, its lanes are the ASCII text "CRC64NVM", and it is read-only. -/
def Obligations.IdIsConstant : Prop :=
  (∀ s : State, exec .rdId s = .next (s.answered 0x4D564E3436435243)) ∧
  (List.range 8).map (fun k => idWord.extractLsb' (8 * k) 8) = [0x43, 0x52, 0x43, 0x36, 0x34, 0x4E, 0x56, 0x4D] ∧
  RefusesWrites 0x000

/-! ### Commands -/

/-- R170: NOP changes no register; a word with OP 0x00 and any other bit set is CMD_RSVD. -/
def Obligations.NopChangesNothing : Prop :=
  (∀ s : State, exec .nop s = .next (s.answered 0)) ∧
  (∀ (w : Word) (s : State), w.extractLsb' 0 8 = 0x00 → w.extractLsb' 8 56 ≠ 0 →
    exec (.wrCmd w) s = .next (s.refusedCommand 2))

/-- R172: INIT starts a new digest from either state and leaves DATA0, DATA1 and the error record alone; two in a row
have the effect of one; a malformed INIT is CMD_RSVD. -/
def Obligations.InitStartsNewDigest : Prop :=
  (∀ s : State, exec .init s = .next ({ s with
      phase := .opened, acc := 0xFFFFFFFFFFFFFFFF, fold := 0, fv := false, tail := [], count := 0 }.answered 0)) ∧
  (∀ s t : State, exec .init s = .next t → exec .init t = .next (t.answered 0)) ∧
  (∀ (w : Word) (s : State), w.extractLsb' 0 8 = 0x01 → w.extractLsb' 8 56 ≠ 0 →
    exec (.wrCmd w) s = .next (s.refusedCommand 2))

/-- R174: while OPEN, UPDATE n appends its n staged bytes to the tail; below 16 bytes nothing else of the digest
changes, and at 16 the first 16 form a block that is absorbed or folded and the rest stay in the tail. The staging
registers keep their value. The refusals: CMD_RSVD, CMD_LEN, STATE_UPDATE_AFTER_FINAL. -/
def Obligations.UpdateConsumesStagedBytes : Prop :=
  (∀ (n : BitVec 5) (s : State), n.toNat ≤ 16 → s.phase = .opened → s.tailLen ≤ 15 →
    let bytes := s.tail ++ (List.range n.toNat).map fun j => (s.data1 ++ s.data0).extractLsb' (8 * j) 8
    (bytes.length < 16 → exec (.update n) s =
      .next ({ s with tail := bytes, count := s.count + n.setWidth 64 }.answered 0)) ∧
    (16 ≤ bytes.length → exec (.update n) s =
      .next ({ s with
        tail := bytes.drop 16
        count := s.count + n.setWidth 64
        fold := if s.fv then foldStep s.fold (packLanes 128 (bytes.take 16))
          else absorb (packLanes 128 (bytes.take 16)) s.acc
        fv := true }.answered 0))) ∧
  (∀ (n : BitVec 5) (s : State), n.toNat ≤ 16 → s.phase = .finalized →
    exec (.update n) s = .next s.refusedUpdate) ∧
  (∀ (n : BitVec 5) (s : State), 17 ≤ n.toNat → exec (.update n) s = .next (s.refusedCommand 3)) ∧
  (∀ (w : Word) (s : State), w.extractLsb' 0 8 = 0x02 → w.extractLsb' 13 51 ≠ 0 →
    exec (.wrCmd w) s = .next (s.refusedCommand 2))

/-- R175: the byte step. TAIL_LEN rises by 1, or drops from 15 to 0 when the block V of lanes t_0 to t_15 completes,
which ABSORB takes when FV = 0 and FOLD_STEP when FV = 1; COUNT rises by 1 modulo 2^64; ACC is not written. -/
def Obligations.PushTakesOneByte : Prop :=
  ∀ (s : State) (b : Byte),
    (s.tailLen ≤ 14 → s.push b = { s with tail := s.tail ++ [b], count := s.count + 1 }) ∧
    (s.tailLen = 15 → ∃ v : Block, (∀ k, k < 16 → v.extractLsb' (8 * k) 8 = (s.tail ++ [b]).getD k 0) ∧
      (s.fv = false → s.push b =
        { s with tail := [], count := s.count + 1, fold := absorb v s.acc, fv := true }) ∧
      (s.fv = true → s.push b = { s with tail := [], count := s.count + 1, fold := foldStep s.fold v }))

/-- R177: FINALIZE from OPEN reduces FOLD when FV = 1, runs the tail oldest byte first through TAIL_STEP, XORs XOROUT
and enters FINALIZED, with COUNT and the staging registers unchanged; while FINALIZED it changes nothing; a malformed
FINALIZE is CMD_RSVD. -/
def Obligations.FinalizeClosesDigest : Prop :=
  (∀ s : State, s.phase = .opened → exec .finalize s = .next ({ s with
      phase := .finalized
      acc := s.tail.foldl tailStep (if s.fv then reduce s.fold else s.acc) ^^^ 0xFFFFFFFFFFFFFFFF
      fold := if s.fv then 0 else s.fold
      fv := false
      tail := [] }.answered 0)) ∧
  (∀ s : State, s.phase = .finalized → exec .finalize s = .next (s.answered 0)) ∧
  (∀ (w : Word) (s : State), w.extractLsb' 0 8 = 0x03 → w.extractLsb' 8 56 ≠ 0 →
    exec (.wrCmd w) s = .next (s.refusedCommand 2))

/-- R178: in FINALIZED, FINALIZE changes nothing, UPDATE is rejected whatever n is, INIT reopens, and NOP, CLRERR and
the reads do what they do in OPEN. -/
def Obligations.FinalizedStateBehaviour : Prop :=
  (∀ s : State, s.phase = .finalized →
    exec .finalize s = .next (s.answered 0) ∧ (s.answered 0).result = s.result ∧
    (∀ n : BitVec 5, n.toNat ≤ 16 → exec (.update n) s = .next s.refusedUpdate) ∧
    (∃ t, exec .init s = .next t ∧ t.phase = .opened ∧ t.acc = 0xFFFFFFFFFFFFFFFF)) ∧
  (∀ s : State, exec .nop s = .next (s.answered 0)) ∧
  (∀ s : State, exec .clrerr s = .next
    ({ s with errCmd := false, errState := false, errBus := false, lastErr := 0 }.answered 0)) ∧
  (∀ (i : Instr) (s : State), i.isRead = true → ∃ v, exec i s = .next (s.answered v))

/-- R179: CLRERR clears the four error fields in either state and does not touch the digest; a malformed CLRERR records
its own error and clears nothing. -/
def Obligations.ClrerrClearsErrorRecord : Prop :=
  (∀ s : State, exec .clrerr s = .next
    ({ s with errCmd := false, errState := false, errBus := false, lastErr := 0 }.answered 0)) ∧
  (∀ (w : Word) (s : State), w.extractLsb' 0 8 = 0x04 → w.extractLsb' 8 56 ≠ 0 →
    exec (.wrCmd w) s = .next (s.refusedCommand 2))

/-! ### Registers over all instructions -/

/-- R22: INIT and reset set OPEN, FINALIZE sets FINALIZED, no other operation writes STATE, and the host reads it as
STATUS[1:0]. -/
def Obligations.StateRegisterWriters : Prop :=
  (∀ (i : Instr) (s t : State), exec i s = .next t →
    (i.runs = some .init → t.phase = .opened) ∧
    (i.runs = some .finalize → t.phase = .finalized) ∧
    (i.runs ≠ some .init → i.runs ≠ some .finalize → t.phase = s.phase)) ∧
  (∀ (s : State) (a : Access) (rest : List HostEvent) (e : ErrCode) (t : State),
    s.pending = .access a :: rest → decodeAccess a = .error e → step s = .next t → t.phase = s.phase) ∧
  (∀ (s t : State) (q : Option Access) (rest : List HostEvent), s.pending = .reset q :: rest →
    step s = .next t → t.phase = .opened) ∧
  State.reset.phase = .opened ∧
  (∀ s : State, s.status.extractLsb' 0 2 = match s.phase with | .opened => 0 | .finalized => 1)

/-- R27: each byte UPDATE accepts adds 1 to COUNT modulo 2^64, INIT and reset clear it, FINALIZE leaves it, and nothing
reads it but the host read at 0x030. -/
def Obligations.CountCountsBytes : Prop :=
  (∀ (n : BitVec 5) (s t : State), n.toNat ≤ 16 → s.phase = .opened → exec (.update n) s = .next t →
    t.count = s.count + BitVec.ofNat 64 n.toNat) ∧
  (∀ s t : State, exec .init s = .next t → t.count = 0) ∧
  (∀ (s t : State) (q : Option Access) (rest : List HostEvent), s.pending = .reset q :: rest →
    step s = .next t → t.count = 0) ∧
  (∀ s t : State, exec .finalize s = .next t → t.count = s.count) ∧
  (∀ (i : Instr) (s t t' : State) (c : Word), i ≠ .rdCount → exec i s = .next t →
    exec i { s with count := c } = .next t' → t' = { t with count := t'.count }) ∧
  (∀ s : State, exec .rdCount s = .next (s.answered s.count)) ∧
  State.reset.count = 0

/-- R28: the staging registers read back the last value written; no command but UPDATE reads them and no command writes
them; they are 0 after reset. Stream byte j of an UPDATE is lane j of `{DATA1, DATA0}`. -/
def Obligations.StagingRegisters : Prop :=
  (∀ (v : Word) (s t : State), exec (.wrData0 v) s = .next t → exec .rdData0 t = .next (t.answered v)) ∧
  (∀ (v : Word) (s t : State), exec (.wrData1 v) s = .next t → exec .rdData1 t = .next (t.answered v)) ∧
  (∀ (i : Instr) (s t : State), exec i s = .next t →
    ((∀ v, i ≠ .wrData0 v) → t.data0 = s.data0) ∧ ((∀ v, i ≠ .wrData1 v) → t.data1 = s.data1)) ∧
  (∀ (i : Instr) (s t t' : State) (d0 d1 : Word), i.isUpdate = false → i ≠ .rdData0 → i ≠ .rdData1 →
    exec i s = .next t → exec i { s with data0 := d0, data1 := d1 } = .next t' →
    t' = { t with data0 := t'.data0, data1 := t'.data1 }) ∧
  (∀ (s : State) (n : Nat), s.stagedBytes n =
    (List.range n).map fun j => (s.data1 ++ s.data0).extractLsb' (8 * j) 8) ∧
  State.reset.data0 = 0 ∧ State.reset.data1 = 0

/-- R53: byte j is lane j of DATA0 for j below 8 and lane j - 8 of DATA1 above; byte 0 is consumed first; lanes from
LEN on are ignored; a 16-byte block is the value `{DATA1, DATA0}`. -/
def Obligations.DataLaneOrder : Prop :=
  (∀ (d0 d1 : Word) (j : Nat), (j < 8 → laneByte d0 d1 j = d0.extractLsb' (8 * j) 8) ∧
    (8 ≤ j → j < 16 → laneByte d0 d1 j = d1.extractLsb' (8 * (j - 8)) 8)) ∧
  (∀ (s : State) (n : Nat), s.stagedBytes n = (List.range n).map (laneByte s.data0 s.data1)) ∧
  (∀ (n : BitVec 5) (s : State), n.toNat ≤ 16 → s.phase = .opened →
    exec (.update n) s = .next ((s.pushAll (s.stagedBytes n.toNat)).answered 0)) ∧
  (∀ (n : BitVec 5) (s t t' : State) (d0 d1 : Word),
    (∀ j, j < n.toNat → laneByte d0 d1 j = laneByte s.data0 s.data1 j) →
    exec (.update n) s = .next t → exec (.update n) { s with data0 := d0, data1 := d1 } = .next t' →
    t' = { t with data0 := d0, data1 := d1 }) ∧
  (∀ d0 d1 : Word, packLanes 128 (laneBytes d0 d1 16) = d1 ++ d0)

/-! ### Invariants -/

/-- Every step keeps the invariants of R33, (v) for OPEN states, and the bound of R210 on LAST_ERR (derived; log 3). -/
def Obligations.StepKeepsInvariant : Prop :=
  ∀ s t : State, s.Inv → step s = .next t → t.Inv

/-- The invariants hold after reset, whatever host events are pending (derived; log 3). -/
def Obligations.ResetMeetsInvariant : Prop :=
  ∀ evs : List HostEvent, (State.resetWith evs).Inv

/-- R33 as the rule writes it, with (v) in every state. Expected to FAIL: FINALIZE empties TAIL and leaves COUNT (R177),
so after 9 bytes and FINALIZE, TAIL_LEN = 0 and COUNT = 9 (log 3). -/
def Obligations.Rule33AsWrittenHoldsOnEveryRun : Prop :=
  ∀ s : State, Reachable s → s.Rule33

/-! ### The datapath -/

/-- R140: coefficient k of the product is the XOR of `a[i] & b[k-i]`; the corner cases and the example. -/
def Obligations.ClmulIsCarrylessProduct : Prop :=
  (∀ (a b : Word) (k : Nat), k < 128 →
    (clmul64 a b).getLsbD k = (List.range (k + 1)).foldl (fun c i => c ^^ (a.getLsbD i && b.getLsbD (k - i))) false) ∧
  (∀ b : Word, clmul64 0 b = 0) ∧ (∀ b : Word, clmul64 1 b = b.setWidth 128) ∧
  (∀ a b : Word, clmul64 a b = clmul64 b a) ∧ (∀ a b : Word, (clmul64 a b).getLsbD 127 = false) ∧
  clmul64 0x8000000000000000 0x8000000000000000 = 0x40000000000000000000000000000000 ∧
  clmul64 0xFFFFFFFFFFFFFFFF 0xFFFFFFFFFFFFFFFF = 0x55555555555555555555555555555555 ∧
  clmul64 3 3 = 5

/-- R141: the reflected product law. -/
def Obligations.ReflectedProductLaw : Prop :=
  ∀ a b : Word, poly128 (clmul64 a b) = Polynomial.X * poly64 a * poly64 b

/-- R142 and R143: TAIL_STEP and ABSORB, their corner cases and examples. -/
def Obligations.TailStepAndAbsorb : Prop :=
  (∀ (acc : Word) (b : Byte),
    tailStep acc b = romTable ((acc ^^^ b.setWidth 64).extractLsb' 0 8) ^^^ (acc >>> 8)) ∧
  tailStep 0 0 = 0 ∧ tailStep 0 0x80 = 0x9a6c9329ac4bc9b5 ∧ tailStep 0x100 0 = 1 ∧
  (∀ (acc acc' : Word) (b : Byte), acc.extractLsb' 0 8 = acc'.extractLsb' 0 8 →
    tailStep acc b ^^^ tailStep acc' b = (acc >>> 8) ^^^ (acc' >>> 8)) ∧
  tailStep 0xFFFFFFFFFFFFFFFF 0x31 = 0xdc6a5e3cb9e4412d ∧
  (∀ (v : Block) (acc : Word), absorb v acc = v ^^^ acc.setWidth 128) ∧
  (∀ v : Block, lowHalf (absorb v initReg) = ~~~(lowHalf v) ∧ highHalf (absorb v initReg) = highHalf v) ∧
  absorb 0x0f0e0d0c0b0a09080706050403020100 0xFFFFFFFFFFFFFFFF = 0x0f0e0d0c0b0a0908f8f9fafbfcfdfeff

/-- R144: FOLD_STEP, its corner cases and its example. -/
def Obligations.FoldStepFoldsOneBlock : Prop :=
  (∀ f v : Block, foldStep f v = clmul64 (f.extractLsb' 0 64) 0xeadc41fd2ba3d420 ^^^
    clmul64 (f.extractLsb' 64 64) 0x21e9761e252621ac ^^^ v) ∧
  (∀ v : Block, foldStep 0 v = v) ∧ foldStep 1 0 = kHi.setWidth 128 ∧
  foldStep 0x10000000000000000 0 = kLo.setWidth 128 ∧
  (∀ f v : Block, (foldStep f v).getLsbD 127 = v.getLsbD 127) ∧
  foldStep 0x0f0e0d0c0b0a0908f8f9fafbfcfdfeff 0x1f1e1d1c1b1a19181716151413121110 =
    0x45d755602caa717c702304ef7a3d4390

/-- R145: the fold law, as residues modulo P. -/
def Obligations.FoldLaw : Prop :=
  ∀ f v : Block,
    poly128 (foldStep f v) %ₘ genPoly = (poly128 f * Polynomial.X ^ 128 + poly128 v) %ₘ genPoly

/-- R146, its corner cases and its example (derived: the intermediates are free, R151). -/
def Obligations.ReduceValues : Prop :=
  reduce 0 = 0 ∧ reduce 1 = kHi ∧ reduce 0x80000000000000000000000000000000 = polyR ∧
  reduce 0xFFFFFFFFFFFFFFFFFFFFFFFFFFFFFFFF = 0xb5fcdd65d113c2c6 ∧
  reduce 0x0f0e0d0c0b0a0908f8f9fafbfcfdfeff = 0x309bab38a206a9df

/-- R147: the reduce law, in both its forms. -/
def Obligations.ReduceLaw : Prop :=
  (∀ f : Block, poly64 (reduce f) = (poly128 f * Polynomial.X ^ 64) %ₘ genPoly) ∧
  (∀ f : Block, reduce f = crcReg 0 ((List.range 16).map fun k => f.extractLsb' (8 * k) 8))

/-- R148: the tail-step law, and its chain over a byte list. -/
def Obligations.TailStepLaw : Prop :=
  (∀ (acc : Word) (b : Byte), tailStep acc b = crcReg acc [b]) ∧
  (∀ (acc : Word) (S : List Byte), tailSteps acc S = crcReg acc S)

/-- R149: the absorb law. -/
def Obligations.AbsorbLaw : Prop :=
  ∀ (v : Block) (acc : Word),
    reduce (absorb v acc) = crcReg acc ((List.range 16).map fun k => v.extractLsb' (8 * k) 8)

/-- R150: the block-path law for every number of blocks and every r0, and any split in a block prefix and a tail. -/
def Obligations.BlockPathLaw : Prop :=
  ∀ (r0 : Word) (v : Block) (vs : List Block) (T : List Byte),
    reduce (foldBlocks (absorb v r0) vs) = crcReg r0 (blocksBytes (v :: vs)) ∧
    tailSteps (reduce (foldBlocks (absorb v r0) vs)) T = crcReg r0 (blocksBytes (v :: vs) ++ T)

/-! ### The ROMs and the reference function -/

/-- R121: the polynomial law of the reference function, linearity and concatenation. -/
def Obligations.ReferencePolynomialLaw : Prop :=
  (∀ (r0 : Word) (S : List Byte), poly64 (crcReg r0 S) =
    (poly64 r0 * Polynomial.X ^ (8 * S.length) + msgPoly S * Polynomial.X ^ 64) %ₘ genPoly) ∧
  (∀ (r0 r1 : Word) (S S' : List Byte), S.length = S'.length →
    crcReg (r0 ^^^ r1) (List.zipWith (· ^^^ ·) S S') = crcReg r0 S ^^^ crcReg r1 S') ∧
  (∀ (r0 : Word) (S S' : List Byte), crcReg r0 (S ++ S') = crcReg (crcReg r0 S) S')

/-- R112, R116 and R120: the constants ROM word by word, POLY_R as POLY_N reversed, CHECK as the checksum of
"123456789"; and INIT as what reset and INIT put in ACC, and the checksum 0 of the empty stream. -/
def Obligations.ConstantsRomContents : Prop :=
  (List.range 8).map (fun i => romConst (BitVec.ofNat 3 i)) =
    [0xad93d23594c93659, 0x9a6c9329ac4bc9b5, 0xffffffffffffffff, 0xffffffffffffffff, 0xeadc41fd2ba3d420,
     0x21e9761e252621ac, 0x13f67d194d77cfbb, 0xae8b14860a799888] ∧
  (∀ i, i < 64 → polyR.getLsbD i = polyN.getLsbD (63 - i)) ∧ poly64 polyR = polyNormal polyN ∧
  State.reset.acc = romConst 2 ∧ (∀ s t : State, exec .init s = .next t → t.acc = romConst 2) ∧
  romConst 7 = crc64nvme [0x31, 0x32, 0x33, 0x34, 0x35, 0x36, 0x37, 0x38, 0x39] ∧
  crc64nvme [] = 0

/-- R117, R118 and R119: the fold constants and the Barrett constant are what their polynomials say, and FOLD_STEP
multiplies the two halves of FOLD by the fold constants. -/
def Obligations.FoldConstantsFromPolynomial : Prop :=
  kHi = 0xeadc41fd2ba3d420 ∧ kLo = 0x21e9761e252621ac ∧ muR = 0x13f67d194d77cfbb ∧
  (∀ f v : Block, foldStep f v = clmul64 (f.extractLsb' 0 64) kHi ^^^ clmul64 (f.extractLsb' 64 64) kLo ^^^ v) ∧
  genPoly.Monic ∧
  poly64 kHi = Polynomial.X ^ 191 %ₘ genPoly ∧ polyNormal 0x042bc5d4bf823b57 = Polynomial.X ^ 191 %ₘ genPoly ∧
  poly64 kLo = Polynomial.X ^ 127 %ₘ genPoly ∧ polyNormal 0x358464a4786e9784 = Polynomial.X ^ 127 %ₘ genPoly ∧
  poly64 muR = Polynomial.X ^ 128 /ₘ genPoly - Polynomial.X ^ 64 ∧
  Polynomial.X ^ 64 + polyNormal 0xddf3eeb298be6fc8 = Polynomial.X ^ 128 /ₘ genPoly

/-- R115: every entry of the listing is T(i), the register after the byte i from 0, and poly8(i) x^64 modulo P. -/
def Obligations.TableEntriesFromPolynomial : Prop :=
  ∀ i : BitVec 8, romTable i = tableGen i ∧ romTable i = crcReg 0 [i] ∧
    poly64 (romTable i) =
      ((∑ j ∈ Finset.range 8, bitTerm (i.getLsbD j) (7 - j)) * Polynomial.X ^ 64) %ₘ genPoly

/-- R122: the table is linear in its index, and its two entries. -/
def Obligations.TableRomIsLinear : Prop :=
  (∀ a b : BitVec 8, romTable (a ^^^ b) = romTable a ^^^ romTable b) ∧ romTable 0 = 0 ∧ romTable 0x80 = polyR

/-! ### Headlines -/

/-- R34: reset and INIT give the digest of the empty stream, every event that keeps the stream appends the bytes it
feeds, and the digest of a stream S gives the reference register after S. -/
def Obligations.DigestStandsForItsStream : Prop :=
  (∀ evs, (State.resetWith evs).Represents []) ∧
  (∀ s t : State, exec .init s = .next t → t.Represents []) ∧
  (∀ (s t : State) (S : List Byte) (e : HostEvent) (rest : List HostEvent), s.Represents S →
    s.pending = e :: rest → keepsStream e = true → step s = .next t →
    t.Represents (S ++ streamOf s.data0 s.data1 [e])) ∧
  (∀ (s : State) (S : List Byte), s.Represents S →
    S = blockPrefix S ++ s.tail ∧
    crcReg initReg S = tailSteps (if s.fv then reduce s.fold else s.acc) s.tail)

/-- R180: INIT, then any events that keep the stream (UPDATEs of any lengths, staging writes, reads, NOPs, CLRERRs,
refused commands and accesses), then FINALIZE, leaves RESULT equal to the reference checksum of the bytes fed. -/
def Obligations.ChunkBoundaryIndependence : Prop :=
  ∀ (s : State) (evs rest : List HostEvent), (∀ e ∈ evs, keepsStream e = true) →
    s.pending = .access (encode .init).toAccess :: (evs ++ .access (encode .finalize).toAccess :: rest) →
    ∃ t, Host.Core.run core (evs.length + 2) s = .next t ∧ t.pending = rest ∧ t.phase = .finalized ∧
      t.result = crc64nvme (streamOf s.data0 s.data1 evs)

/-- R93: the CRC pseudo-instruction expands to INIT, FEED, FINAL and R RESULT, and its last line answers the checksum of
its bytes, from any state. -/
def Obligations.CrcPseudoInstructionGivesChecksum : Prop :=
  ∀ (bytes : List Byte),
    crcLines bytes = [.write .cmd 0x1] ++ feedLines bytes ++ [.write .cmd 0x3, .read .result] ∧
    (∀ (s : State) (rest : List HostEvent), s.pending = hostEvents (crcLines bytes) ++ rest →
      ∃ t, Host.Core.run core (crcLines bytes).length s = .next t ∧ t.pending = rest ∧
        t.responses.getLast? = some ⟨.okay, crc64nvme bytes⟩ ∧ t.result = crc64nvme bytes)

/-- R185: flipping one bit of a stream changes its checksum. -/
def Obligations.SingleBitChangeIsDetected : Prop :=
  ∀ (S : List Byte) (k j : Nat), k < S.length → j < 8 →
    crc64nvme (S.set k (S.getD k 0 ^^^ (1#8 <<< j))) ≠ crc64nvme S

/-- R221, what one instance can show: a step of one instance, and an event sent to it, leave every other instance as it
was; a step of instance k is a step of the core it holds; instances start together at reset (derived). That a reset sent
to one instance leaves the others as they were is the model's choice (log 18). -/
def Obligations.InstancesShareNoState : Prop :=
  (∀ (p p' : Platform) (k j : Nat), j ≠ k → p.stepInstance k = .next p' →
    p'.instances[j]? = p.instances[j]?) ∧
  (∀ (p : Platform) (k j : Nat) (e : HostEvent), j ≠ k →
    (p.deliver k e).instances[j]? = p.instances[j]?) ∧
  (∀ (p : Platform) (k : Nat) (s t : State), p.instances[k]? = some s → step s = .next t →
    ∃ p', p.stepInstance k = .next p' ∧ p'.instances[k]? = some t) ∧
  (∀ k, k < Config.nInst → Platform.reset.instances[k]? = some State.reset)
end

