-- ==== Sys2Proof/Laws/State.lean ====
section
/-! SUPPORT. One lemma per field for every named update of the state, so that no later proof unfolds a record update.
The updates are those of Machine/Ops.lean and Machine/Bus.lean. -/

namespace Sys2Proof.Machine

/-! #### respond -/

@[simp] theorem State.respond_phase (s : State) (r : Response) : (s.respond r).phase = s.phase := rfl
@[simp] theorem State.respond_acc (s : State) (r : Response) : (s.respond r).acc = s.acc := rfl
@[simp] theorem State.respond_fold (s : State) (r : Response) : (s.respond r).fold = s.fold := rfl
@[simp] theorem State.respond_fv (s : State) (r : Response) : (s.respond r).fv = s.fv := rfl
@[simp] theorem State.respond_tail (s : State) (r : Response) : (s.respond r).tail = s.tail := rfl
@[simp] theorem State.respond_count (s : State) (r : Response) : (s.respond r).count = s.count := rfl
@[simp] theorem State.respond_data0 (s : State) (r : Response) : (s.respond r).data0 = s.data0 := rfl
@[simp] theorem State.respond_data1 (s : State) (r : Response) : (s.respond r).data1 = s.data1 := rfl
@[simp] theorem State.respond_errCmd (s : State) (r : Response) : (s.respond r).errCmd = s.errCmd := rfl
@[simp] theorem State.respond_errState (s : State) (r : Response) : (s.respond r).errState = s.errState := rfl
@[simp] theorem State.respond_errBus (s : State) (r : Response) : (s.respond r).errBus = s.errBus := rfl
@[simp] theorem State.respond_lastErr (s : State) (r : Response) : (s.respond r).lastErr = s.lastErr := rfl
@[simp] theorem State.respond_pending (s : State) (r : Response) : (s.respond r).pending = s.pending := rfl
@[simp] theorem State.respond_responses (s : State) (r : Response) : (s.respond r).responses = s.responses ++ [r] := rfl

/-! #### recordError (R213) -/

@[simp] theorem State.recordError_phase (s : State) (e : ErrCode) : (s.recordError e).phase = s.phase := rfl
@[simp] theorem State.recordError_acc (s : State) (e : ErrCode) : (s.recordError e).acc = s.acc := rfl
@[simp] theorem State.recordError_fold (s : State) (e : ErrCode) : (s.recordError e).fold = s.fold := rfl
@[simp] theorem State.recordError_fv (s : State) (e : ErrCode) : (s.recordError e).fv = s.fv := rfl
@[simp] theorem State.recordError_tail (s : State) (e : ErrCode) : (s.recordError e).tail = s.tail := rfl
@[simp] theorem State.recordError_count (s : State) (e : ErrCode) : (s.recordError e).count = s.count := rfl
@[simp] theorem State.recordError_data0 (s : State) (e : ErrCode) : (s.recordError e).data0 = s.data0 := rfl
@[simp] theorem State.recordError_data1 (s : State) (e : ErrCode) : (s.recordError e).data1 = s.data1 := rfl
@[simp] theorem State.recordError_errCmd (s : State) (e : ErrCode) : (s.recordError e).errCmd = (s.errCmd || e.setsErrCmd) := rfl
@[simp] theorem State.recordError_errState (s : State) (e : ErrCode) : (s.recordError e).errState = (s.errState || e.setsErrState) := rfl
@[simp] theorem State.recordError_errBus (s : State) (e : ErrCode) : (s.recordError e).errBus = (s.errBus || e.setsErrBus) := rfl
@[simp] theorem State.recordError_lastErr (s : State) (e : ErrCode) : (s.recordError e).lastErr = e.code := rfl
@[simp] theorem State.recordError_pending (s : State) (e : ErrCode) : (s.recordError e).pending = s.pending := rfl
@[simp] theorem State.recordError_responses (s : State) (e : ErrCode) : (s.recordError e).responses = s.responses := rfl

/-! #### clearErrors (R179) -/

@[simp] theorem State.clearErrors_phase (s : State) : (s.clearErrors).phase = s.phase := rfl
@[simp] theorem State.clearErrors_acc (s : State) : (s.clearErrors).acc = s.acc := rfl
@[simp] theorem State.clearErrors_fold (s : State) : (s.clearErrors).fold = s.fold := rfl
@[simp] theorem State.clearErrors_fv (s : State) : (s.clearErrors).fv = s.fv := rfl
@[simp] theorem State.clearErrors_tail (s : State) : (s.clearErrors).tail = s.tail := rfl
@[simp] theorem State.clearErrors_count (s : State) : (s.clearErrors).count = s.count := rfl
@[simp] theorem State.clearErrors_data0 (s : State) : (s.clearErrors).data0 = s.data0 := rfl
@[simp] theorem State.clearErrors_data1 (s : State) : (s.clearErrors).data1 = s.data1 := rfl
@[simp] theorem State.clearErrors_errCmd (s : State) : (s.clearErrors).errCmd = false := rfl
@[simp] theorem State.clearErrors_errState (s : State) : (s.clearErrors).errState = false := rfl
@[simp] theorem State.clearErrors_errBus (s : State) : (s.clearErrors).errBus = false := rfl
@[simp] theorem State.clearErrors_lastErr (s : State) : (s.clearErrors).lastErr = 0 := rfl
@[simp] theorem State.clearErrors_pending (s : State) : (s.clearErrors).pending = s.pending := rfl
@[simp] theorem State.clearErrors_responses (s : State) : (s.clearErrors).responses = s.responses := rfl

/-! #### startDigest (R172) -/

@[simp] theorem State.startDigest_phase (s : State) : (s.startDigest).phase = .opened := rfl
@[simp] theorem State.startDigest_acc (s : State) : (s.startDigest).acc = romConst 2 := rfl
@[simp] theorem State.startDigest_fold (s : State) : (s.startDigest).fold = 0 := rfl
@[simp] theorem State.startDigest_fv (s : State) : (s.startDigest).fv = false := rfl
@[simp] theorem State.startDigest_tail (s : State) : (s.startDigest).tail = [] := rfl
@[simp] theorem State.startDigest_count (s : State) : (s.startDigest).count = 0 := rfl
@[simp] theorem State.startDigest_data0 (s : State) : (s.startDigest).data0 = s.data0 := rfl
@[simp] theorem State.startDigest_data1 (s : State) : (s.startDigest).data1 = s.data1 := rfl
@[simp] theorem State.startDigest_errCmd (s : State) : (s.startDigest).errCmd = s.errCmd := rfl
@[simp] theorem State.startDigest_errState (s : State) : (s.startDigest).errState = s.errState := rfl
@[simp] theorem State.startDigest_errBus (s : State) : (s.startDigest).errBus = s.errBus := rfl
@[simp] theorem State.startDigest_lastErr (s : State) : (s.startDigest).lastErr = s.lastErr := rfl
@[simp] theorem State.startDigest_pending (s : State) : (s.startDigest).pending = s.pending := rfl
@[simp] theorem State.startDigest_responses (s : State) : (s.startDigest).responses = s.responses := rfl

/-! #### appendByte (R175) -/

@[simp] theorem State.appendByte_phase (s : State) (b : Byte) : (s.appendByte b).phase = s.phase := rfl
@[simp] theorem State.appendByte_acc (s : State) (b : Byte) : (s.appendByte b).acc = s.acc := rfl
@[simp] theorem State.appendByte_fold (s : State) (b : Byte) : (s.appendByte b).fold = s.fold := rfl
@[simp] theorem State.appendByte_fv (s : State) (b : Byte) : (s.appendByte b).fv = s.fv := rfl
@[simp] theorem State.appendByte_tail (s : State) (b : Byte) : (s.appendByte b).tail = s.tail ++ [b] := rfl
@[simp] theorem State.appendByte_count (s : State) (b : Byte) : (s.appendByte b).count = s.count + 1 := rfl
@[simp] theorem State.appendByte_data0 (s : State) (b : Byte) : (s.appendByte b).data0 = s.data0 := rfl
@[simp] theorem State.appendByte_data1 (s : State) (b : Byte) : (s.appendByte b).data1 = s.data1 := rfl
@[simp] theorem State.appendByte_errCmd (s : State) (b : Byte) : (s.appendByte b).errCmd = s.errCmd := rfl
@[simp] theorem State.appendByte_errState (s : State) (b : Byte) : (s.appendByte b).errState = s.errState := rfl
@[simp] theorem State.appendByte_errBus (s : State) (b : Byte) : (s.appendByte b).errBus = s.errBus := rfl
@[simp] theorem State.appendByte_lastErr (s : State) (b : Byte) : (s.appendByte b).lastErr = s.lastErr := rfl
@[simp] theorem State.appendByte_pending (s : State) (b : Byte) : (s.appendByte b).pending = s.pending := rfl
@[simp] theorem State.appendByte_responses (s : State) (b : Byte) : (s.appendByte b).responses = s.responses := rfl

/-! #### drainTail (R177) -/

@[simp] theorem State.drainTail_phase (s : State) : (s.drainTail).phase = s.phase := rfl
@[simp] theorem State.drainTail_acc (s : State) : (s.drainTail).acc = tailSteps s.acc s.tail := rfl
@[simp] theorem State.drainTail_fold (s : State) : (s.drainTail).fold = s.fold := rfl
@[simp] theorem State.drainTail_fv (s : State) : (s.drainTail).fv = s.fv := rfl
@[simp] theorem State.drainTail_tail (s : State) : (s.drainTail).tail = [] := rfl
@[simp] theorem State.drainTail_count (s : State) : (s.drainTail).count = s.count := rfl
@[simp] theorem State.drainTail_data0 (s : State) : (s.drainTail).data0 = s.data0 := rfl
@[simp] theorem State.drainTail_data1 (s : State) : (s.drainTail).data1 = s.data1 := rfl
@[simp] theorem State.drainTail_errCmd (s : State) : (s.drainTail).errCmd = s.errCmd := rfl
@[simp] theorem State.drainTail_errState (s : State) : (s.drainTail).errState = s.errState := rfl
@[simp] theorem State.drainTail_errBus (s : State) : (s.drainTail).errBus = s.errBus := rfl
@[simp] theorem State.drainTail_lastErr (s : State) : (s.drainTail).lastErr = s.lastErr := rfl
@[simp] theorem State.drainTail_pending (s : State) : (s.drainTail).pending = s.pending := rfl
@[simp] theorem State.drainTail_responses (s : State) : (s.drainTail).responses = s.responses := rfl

/-! #### closeDigest (R177) -/

@[simp] theorem State.closeDigest_phase (s : State) : (s.closeDigest).phase = .finalized := rfl
@[simp] theorem State.closeDigest_acc (s : State) : (s.closeDigest).acc = s.acc ^^^ romConst 3 := rfl
@[simp] theorem State.closeDigest_fold (s : State) : (s.closeDigest).fold = s.fold := rfl
@[simp] theorem State.closeDigest_fv (s : State) : (s.closeDigest).fv = s.fv := rfl
@[simp] theorem State.closeDigest_tail (s : State) : (s.closeDigest).tail = s.tail := rfl
@[simp] theorem State.closeDigest_count (s : State) : (s.closeDigest).count = s.count := rfl
@[simp] theorem State.closeDigest_data0 (s : State) : (s.closeDigest).data0 = s.data0 := rfl
@[simp] theorem State.closeDigest_data1 (s : State) : (s.closeDigest).data1 = s.data1 := rfl
@[simp] theorem State.closeDigest_errCmd (s : State) : (s.closeDigest).errCmd = s.errCmd := rfl
@[simp] theorem State.closeDigest_errState (s : State) : (s.closeDigest).errState = s.errState := rfl
@[simp] theorem State.closeDigest_errBus (s : State) : (s.closeDigest).errBus = s.errBus := rfl
@[simp] theorem State.closeDigest_lastErr (s : State) : (s.closeDigest).lastErr = s.lastErr := rfl
@[simp] theorem State.closeDigest_pending (s : State) : (s.closeDigest).pending = s.pending := rfl
@[simp] theorem State.closeDigest_responses (s : State) : (s.closeDigest).responses = s.responses := rfl

/-! #### enqueue -/

@[simp] theorem State.enqueue_phase (s : State) (e : HostEvent) : (s.enqueue e).phase = s.phase := rfl
@[simp] theorem State.enqueue_acc (s : State) (e : HostEvent) : (s.enqueue e).acc = s.acc := rfl
@[simp] theorem State.enqueue_fold (s : State) (e : HostEvent) : (s.enqueue e).fold = s.fold := rfl
@[simp] theorem State.enqueue_fv (s : State) (e : HostEvent) : (s.enqueue e).fv = s.fv := rfl
@[simp] theorem State.enqueue_tail (s : State) (e : HostEvent) : (s.enqueue e).tail = s.tail := rfl
@[simp] theorem State.enqueue_count (s : State) (e : HostEvent) : (s.enqueue e).count = s.count := rfl
@[simp] theorem State.enqueue_data0 (s : State) (e : HostEvent) : (s.enqueue e).data0 = s.data0 := rfl
@[simp] theorem State.enqueue_data1 (s : State) (e : HostEvent) : (s.enqueue e).data1 = s.data1 := rfl
@[simp] theorem State.enqueue_errCmd (s : State) (e : HostEvent) : (s.enqueue e).errCmd = s.errCmd := rfl
@[simp] theorem State.enqueue_errState (s : State) (e : HostEvent) : (s.enqueue e).errState = s.errState := rfl
@[simp] theorem State.enqueue_errBus (s : State) (e : HostEvent) : (s.enqueue e).errBus = s.errBus := rfl
@[simp] theorem State.enqueue_lastErr (s : State) (e : HostEvent) : (s.enqueue e).lastErr = s.lastErr := rfl
@[simp] theorem State.enqueue_pending (s : State) (e : HostEvent) : (s.enqueue e).pending = s.pending ++ [e] := rfl
@[simp] theorem State.enqueue_responses (s : State) (e : HostEvent) : (s.enqueue e).responses = s.responses := rfl

/-! #### resetEvent (R240) -/

@[simp] theorem resetEvent_phase (s : State) : (resetEvent s).phase = State.reset.phase := rfl
@[simp] theorem resetEvent_acc (s : State) : (resetEvent s).acc = State.reset.acc := rfl
@[simp] theorem resetEvent_fold (s : State) : (resetEvent s).fold = State.reset.fold := rfl
@[simp] theorem resetEvent_fv (s : State) : (resetEvent s).fv = State.reset.fv := rfl
@[simp] theorem resetEvent_tail (s : State) : (resetEvent s).tail = State.reset.tail := rfl
@[simp] theorem resetEvent_count (s : State) : (resetEvent s).count = State.reset.count := rfl
@[simp] theorem resetEvent_data0 (s : State) : (resetEvent s).data0 = State.reset.data0 := rfl
@[simp] theorem resetEvent_data1 (s : State) : (resetEvent s).data1 = State.reset.data1 := rfl
@[simp] theorem resetEvent_errCmd (s : State) : (resetEvent s).errCmd = State.reset.errCmd := rfl
@[simp] theorem resetEvent_errState (s : State) : (resetEvent s).errState = State.reset.errState := rfl
@[simp] theorem resetEvent_errBus (s : State) : (resetEvent s).errBus = State.reset.errBus := rfl
@[simp] theorem resetEvent_lastErr (s : State) : (resetEvent s).lastErr = State.reset.lastErr := rfl
@[simp] theorem resetEvent_pending (s : State) : (resetEvent s).pending = s.pending := rfl
@[simp] theorem resetEvent_responses (s : State) : (resetEvent s).responses = State.reset.responses := rfl

/-! #### reduceFold (R177) -/

@[simp] theorem State.reduceFold_phase (s : State) : s.reduceFold.phase = s.phase := by
  cases h : s.fv <;> simp [State.reduceFold, h]
@[simp] theorem State.reduceFold_acc (s : State) : s.reduceFold.acc = (if s.fv then reduce s.fold else s.acc) := by
  cases h : s.fv <;> simp [State.reduceFold, h]
@[simp] theorem State.reduceFold_fold (s : State) : s.reduceFold.fold = (if s.fv then 0 else s.fold) := by
  cases h : s.fv <;> simp [State.reduceFold, h]
@[simp] theorem State.reduceFold_fv (s : State) : s.reduceFold.fv = false := by
  cases h : s.fv <;> simp [State.reduceFold, h]
@[simp] theorem State.reduceFold_tail (s : State) : s.reduceFold.tail = s.tail := by
  cases h : s.fv <;> simp [State.reduceFold, h]
@[simp] theorem State.reduceFold_count (s : State) : s.reduceFold.count = s.count := by
  cases h : s.fv <;> simp [State.reduceFold, h]
@[simp] theorem State.reduceFold_data0 (s : State) : s.reduceFold.data0 = s.data0 := by
  cases h : s.fv <;> simp [State.reduceFold, h]
@[simp] theorem State.reduceFold_data1 (s : State) : s.reduceFold.data1 = s.data1 := by
  cases h : s.fv <;> simp [State.reduceFold, h]
@[simp] theorem State.reduceFold_errCmd (s : State) : s.reduceFold.errCmd = s.errCmd := by
  cases h : s.fv <;> simp [State.reduceFold, h]
@[simp] theorem State.reduceFold_errState (s : State) : s.reduceFold.errState = s.errState := by
  cases h : s.fv <;> simp [State.reduceFold, h]
@[simp] theorem State.reduceFold_errBus (s : State) : s.reduceFold.errBus = s.errBus := by
  cases h : s.fv <;> simp [State.reduceFold, h]
@[simp] theorem State.reduceFold_lastErr (s : State) : s.reduceFold.lastErr = s.lastErr := by
  cases h : s.fv <;> simp [State.reduceFold, h]
@[simp] theorem State.reduceFold_pending (s : State) : s.reduceFold.pending = s.pending := by
  cases h : s.fv <;> simp [State.reduceFold, h]
@[simp] theorem State.reduceFold_responses (s : State) : s.reduceFold.responses = s.responses := by
  cases h : s.fv <;> simp [State.reduceFold, h]

/-! #### takeBlock and push (R175): the fields they leave, and the counter -/

@[simp] theorem State.takeBlock_phase (s : State) (v : Block) : (s.takeBlock v).phase = s.phase := by
  cases h : s.fv <;> simp [State.takeBlock, h]
@[simp] theorem State.takeBlock_acc (s : State) (v : Block) : (s.takeBlock v).acc = s.acc := by
  cases h : s.fv <;> simp [State.takeBlock, h]
@[simp] theorem State.takeBlock_fold (s : State) (v : Block) : (s.takeBlock v).fold = (if s.fv then foldStep s.fold v else absorb v s.acc) := by
  cases h : s.fv <;> simp [State.takeBlock, h]
@[simp] theorem State.takeBlock_fv (s : State) (v : Block) : (s.takeBlock v).fv = true := by
  cases h : s.fv <;> simp [State.takeBlock, h]
@[simp] theorem State.takeBlock_tail (s : State) (v : Block) : (s.takeBlock v).tail = [] := by
  cases h : s.fv <;> simp [State.takeBlock, h]
@[simp] theorem State.takeBlock_count (s : State) (v : Block) : (s.takeBlock v).count = s.count := by
  cases h : s.fv <;> simp [State.takeBlock, h]
@[simp] theorem State.takeBlock_data0 (s : State) (v : Block) : (s.takeBlock v).data0 = s.data0 := by
  cases h : s.fv <;> simp [State.takeBlock, h]
@[simp] theorem State.takeBlock_data1 (s : State) (v : Block) : (s.takeBlock v).data1 = s.data1 := by
  cases h : s.fv <;> simp [State.takeBlock, h]
@[simp] theorem State.takeBlock_errCmd (s : State) (v : Block) : (s.takeBlock v).errCmd = s.errCmd := by
  cases h : s.fv <;> simp [State.takeBlock, h]
@[simp] theorem State.takeBlock_errState (s : State) (v : Block) : (s.takeBlock v).errState = s.errState := by
  cases h : s.fv <;> simp [State.takeBlock, h]
@[simp] theorem State.takeBlock_errBus (s : State) (v : Block) : (s.takeBlock v).errBus = s.errBus := by
  cases h : s.fv <;> simp [State.takeBlock, h]
@[simp] theorem State.takeBlock_lastErr (s : State) (v : Block) : (s.takeBlock v).lastErr = s.lastErr := by
  cases h : s.fv <;> simp [State.takeBlock, h]
@[simp] theorem State.takeBlock_pending (s : State) (v : Block) : (s.takeBlock v).pending = s.pending := by
  cases h : s.fv <;> simp [State.takeBlock, h]
@[simp] theorem State.takeBlock_responses (s : State) (v : Block) : (s.takeBlock v).responses = s.responses := by
  cases h : s.fv <;> simp [State.takeBlock, h]

@[simp] theorem State.push_phase (s : State) (b : Byte) : (s.push b).phase = s.phase := by
  unfold State.push; split <;> simp
@[simp] theorem State.push_acc (s : State) (b : Byte) : (s.push b).acc = s.acc := by
  unfold State.push; split <;> simp
@[simp] theorem State.push_data0 (s : State) (b : Byte) : (s.push b).data0 = s.data0 := by
  unfold State.push; split <;> simp
@[simp] theorem State.push_data1 (s : State) (b : Byte) : (s.push b).data1 = s.data1 := by
  unfold State.push; split <;> simp
@[simp] theorem State.push_errCmd (s : State) (b : Byte) : (s.push b).errCmd = s.errCmd := by
  unfold State.push; split <;> simp
@[simp] theorem State.push_errState (s : State) (b : Byte) : (s.push b).errState = s.errState := by
  unfold State.push; split <;> simp
@[simp] theorem State.push_errBus (s : State) (b : Byte) : (s.push b).errBus = s.errBus := by
  unfold State.push; split <;> simp
@[simp] theorem State.push_lastErr (s : State) (b : Byte) : (s.push b).lastErr = s.lastErr := by
  unfold State.push; split <;> simp
@[simp] theorem State.push_pending (s : State) (b : Byte) : (s.push b).pending = s.pending := by
  unfold State.push; split <;> simp
@[simp] theorem State.push_responses (s : State) (b : Byte) : (s.push b).responses = s.responses := by
  unfold State.push; split <;> simp
@[simp] theorem State.push_count (s : State) (b : Byte) : (s.push b).count = s.count + 1 := by
  unfold State.push; split <;> simp

/-! #### pushAll (R174) -/

@[simp] theorem State.pushAll_nil (s : State) : s.pushAll [] = s := rfl
@[simp] theorem State.pushAll_cons (s : State) (b : Byte) (bs : List Byte) :
    s.pushAll (b :: bs) = (s.push b).pushAll bs := rfl
theorem State.pushAll_append (s : State) (bs cs : List Byte) :
    s.pushAll (bs ++ cs) = (s.pushAll bs).pushAll cs := List.foldl_append
@[simp] theorem State.pushAll_phase (s : State) (bs : List Byte) : (s.pushAll bs).phase = s.phase := by
  induction bs generalizing s with
  | nil => rfl
  | cons b bs ih => simp [ih]
@[simp] theorem State.pushAll_acc (s : State) (bs : List Byte) : (s.pushAll bs).acc = s.acc := by
  induction bs generalizing s with
  | nil => rfl
  | cons b bs ih => simp [ih]
@[simp] theorem State.pushAll_data0 (s : State) (bs : List Byte) : (s.pushAll bs).data0 = s.data0 := by
  induction bs generalizing s with
  | nil => rfl
  | cons b bs ih => simp [ih]
@[simp] theorem State.pushAll_data1 (s : State) (bs : List Byte) : (s.pushAll bs).data1 = s.data1 := by
  induction bs generalizing s with
  | nil => rfl
  | cons b bs ih => simp [ih]
@[simp] theorem State.pushAll_errCmd (s : State) (bs : List Byte) : (s.pushAll bs).errCmd = s.errCmd := by
  induction bs generalizing s with
  | nil => rfl
  | cons b bs ih => simp [ih]
@[simp] theorem State.pushAll_errState (s : State) (bs : List Byte) : (s.pushAll bs).errState = s.errState := by
  induction bs generalizing s with
  | nil => rfl
  | cons b bs ih => simp [ih]
@[simp] theorem State.pushAll_errBus (s : State) (bs : List Byte) : (s.pushAll bs).errBus = s.errBus := by
  induction bs generalizing s with
  | nil => rfl
  | cons b bs ih => simp [ih]
@[simp] theorem State.pushAll_lastErr (s : State) (bs : List Byte) : (s.pushAll bs).lastErr = s.lastErr := by
  induction bs generalizing s with
  | nil => rfl
  | cons b bs ih => simp [ih]
@[simp] theorem State.pushAll_pending (s : State) (bs : List Byte) : (s.pushAll bs).pending = s.pending := by
  induction bs generalizing s with
  | nil => rfl
  | cons b bs ih => simp [ih]
@[simp] theorem State.pushAll_responses (s : State) (bs : List Byte) : (s.pushAll bs).responses = s.responses := by
  induction bs generalizing s with
  | nil => rfl
  | cons b bs ih => simp [ih]

end Sys2Proof.Machine
end

