-- ==== Sys2Proof/Laws/Ops.lean ====
section
/-! SUPPORT. What each shared operation can do, said once: the byte step, the bus refusals, and the loops of the
datapath, the tail processor and the reference CRC. -/

namespace Sys2Proof.Machine

@[simp] theorem State.appendByte_tailLen (s : State) (b : Byte) : (s.appendByte b).tailLen = s.tailLen + 1 := by
  simp [State.tailLen]

/-- PUSH below a full block only appends (R175). -/
theorem State.push_of_short (s : State) (b : Byte) (h : s.tailLen ≠ 15) : s.push b = s.appendByte b := by
  unfold State.push
  rw [if_neg (by simpa using h)]

/-- PUSH of the sixteenth byte takes the block of the old tail and the byte (R175). -/
theorem State.push_of_full (s : State) (b : Byte) (h : s.tailLen = 15) :
    s.push b = (s.appendByte b).takeBlock (packLanes 128 (s.tail ++ [b])) := by
  unfold State.push
  rw [if_pos (by simpa using h)]
  rfl

theorem State.takeBlock_respond (s : State) (v : Block) (r : Response) :
    (s.respond r).takeBlock v = (s.takeBlock v).respond r := by
  cases h : s.fv <;> simp [State.takeBlock, State.respond, h]

/-- PUSH does not see the bus. -/
theorem State.push_respond (s : State) (b : Byte) (r : Response) :
    (s.respond r).push b = (s.push b).respond r := by
  by_cases h : s.tailLen = 15
  · rw [State.push_of_full s b h, State.push_of_full (s.respond r) b h, ← State.takeBlock_respond]; rfl
  · rw [State.push_of_short s b h, State.push_of_short (s.respond r) b h]; rfl

theorem State.pushAll_respond (s : State) (bs : List Byte) (r : Response) :
    (s.respond r).pushAll bs = (s.pushAll bs).respond r := by
  induction bs generalizing s with
  | nil => rfl
  | cons b bs ih => simp [State.push_respond, ih]

@[simp] theorem tailSteps_nil (acc : Word) : tailSteps acc [] = acc := rfl

@[simp] theorem tailSteps_cons (acc : Word) (b : Byte) (bs : List Byte) :
    tailSteps acc (b :: bs) = tailSteps (tailStep acc b) bs := rfl

theorem tailSteps_append (acc : Word) (bs cs : List Byte) :
    tailSteps acc (bs ++ cs) = tailSteps (tailSteps acc bs) cs := List.foldl_append

@[simp] theorem crcReg_nil (r : Word) : crcReg r [] = r := rfl

@[simp] theorem crcReg_cons (r : Word) (b : Byte) (bs : List Byte) :
    crcReg r (b :: bs) = crcReg (crcByte r b) bs := rfl

/-- The reference shift is linear over XOR. -/
theorem crcShift_xor (r r' : Word) : crcShift (r ^^^ r') = crcShift r ^^^ crcShift r' := by
  simp only [crcShift, BitVec.getLsbD_xor, BitVec.ushiftRight_xor_distrib]
  cases r.getLsbD 0 <;> cases r'.getLsbD 0 <;> simp <;> ac_nf; simp [← BitVec.xor_assoc]

theorem crcShifts_xor (n : Nat) (r r' : Word) :
    crcShifts n (r ^^^ r') = crcShifts n r ^^^ crcShifts n r' := by
  induction n generalizing r r' with
  | zero => rfl
  | succ n ih => simp only [crcShifts, crcShift_xor, ih]

/-- The rounds of the carry-less product are linear in the first factor. -/
theorem clmulRounds_xor_left (a a' b : Word) (n : Nat) :
    clmulRounds (a ^^^ a') b n = clmulRounds a b n ^^^ clmulRounds a' b n := by
  induction n with
  | zero => simp [clmulRounds]
  | succ n ih =>
    simp only [clmulRounds, ih, BitVec.setWidth_xor, BitVec.shiftLeft_xor_distrib]
    cases b.getLsbD n <;> (simp; try ac_nf)

theorem clmul64_xor_left (a a' b : Word) : clmul64 (a ^^^ a') b = clmul64 a b ^^^ clmul64 a' b :=
  clmulRounds_xor_left a a' b 64

theorem lowHalf_xor (f g : Block) : lowHalf (f ^^^ g) = lowHalf f ^^^ lowHalf g := by
  simp [lowHalf, BitVec.extractLsb'_xor]

theorem highHalf_xor (f g : Block) : highHalf (f ^^^ g) = highHalf f ^^^ highHalf g := by
  simp [highHalf, BitVec.extractLsb'_xor]

theorem foldStep_xor (f f' v v' : Block) : foldStep (f ^^^ f') (v ^^^ v') = foldStep f v ^^^ foldStep f' v' := by
  simp only [foldStep, lowHalf_xor, highHalf_xor, clmul64_xor_left]
  ac_nf

/-- REDUCE is linear over XOR. -/
theorem reduce_xor (f f' : Block) : reduce (f ^^^ f') = reduce f ^^^ reduce f' := by
  simp only [reduce, lowHalf_xor, highHalf_xor, clmul64_xor_left, BitVec.setWidth_xor, BitVec.shiftLeft_xor_distrib,
    BitVec.extractLsb'_xor]
  ac_nf

/-- The byte update of the reference is linear over XOR. -/
theorem crcByte_xor (r r' : Word) (b b' : Byte) : crcByte (r ^^^ r') (b ^^^ b') = crcByte r b ^^^ crcByte r' b' := by
  rw [crcByte, crcByte, crcByte, ← crcShifts_xor, BitVec.setWidth_xor]
  ac_nf

/-- The bus refuses only with the codes 5 to 7 (R56). -/
theorem decodeAccess_error (a : Access) (e : ErrCode) (h : decodeAccess a = .error e) :
    e = .busAlign ∨ e = .busUnmapped ∨ e = .busDir := by
  unfold decodeAccess at h
  split at h
  · simp at h; exact .inl h.symm
  · split at h
    · simp at h; exact .inr (.inl h.symm)
    · split at h <;> simp at h
      exact .inr (.inr h.symm)

/-- The command decoder rejects only with the codes 1 to 3 (R88). -/
theorem decodeCommandWord_error (w : Word) (e : ErrCode) (h : decodeCommandWord w = .error e) :
    e = .cmdOpcode ∨ e = .cmdRsvd ∨ e = .cmdLen := by
  unfold decodeCommandWord at h
  split at h
  · simp at h; exact .inl h.symm
  · split at h
    · simp at h; exact .inr (.inl h.symm)
    · split at h <;> simp at h
      exact .inr (.inr h.symm)

/-- A refused access records its code and answers ERROR (R56, R213). -/
theorem performAccess_error (a : Access) (s : State) (e : ErrCode) (h : decodeAccess a = .error e) :
    performAccess a s = .next (s.raiseBusError e) := by simp [performAccess, h]

/-- An accepted access runs its form (R56). -/
theorem performAccess_ok (a : Access) (s : State) (i : Instr) (h : decodeAccess a = .ok i) :
    performAccess a s = exec i s := by simp [performAccess, h]

/-- A malformed command word records its code and the write completes with OKAY (R213, R214). -/
theorem execWrCmd_error (w : Word) (s : State) (e : ErrCode) (h : decodeCommandWord w = .error e) :
    execWrCmd w s = .next (s.raiseCmdError e) := by simp [execWrCmd, h]

/-- A legal command word runs its command (R88). -/
theorem execWrCmd_ok (w : Word) (s : State) (c : Command) (h : decodeCommandWord w = .ok c) :
    execWrCmd w s = execCommand c s := by simp [execWrCmd, h]

/-- A command runs the meaning of its row of the opcode table. -/
theorem execCommand_eq_exec (c : Command) (s : State) : execCommand c s = exec c.toInstr s := by
  cases c <;> rfl

/-- What a step does, by its next event (R56, R217, R241). -/
theorem stepCore_cases (s : State) :
    (s.pending = [] ∧ stepCore s = .next s) ∨
    (∃ a rest, s.pending = .access a :: rest ∧ stepCore s = performAccess a { s with pending := rest }) ∨
    (∃ q rest, s.pending = .reset q :: rest ∧ stepCore s = .next (resetEvent { s with pending := rest })) := by
  rcases h : s.pending with _ | ⟨e, rest⟩
  · exact .inl ⟨rfl, by simp [stepCore, h]⟩
  · cases e with
    | access a => exact .inr (.inl ⟨a, rest, rfl, by simp [stepCore, h, handleEvent]⟩)
    | reset q => exact .inr (.inr ⟨q, rest, rfl, by simp [stepCore, h, handleEvent]⟩)

end Sys2Proof.Machine
end

