-- ==== Sys2Proof/Laws/PerInstr.lean ====
section
/-! SUPPORT. Per-instruction families: one lemma for every constructor of Instr. `RowMatch`: the encoding of an
instruction is a word of its own row of spec/opcode_table.json (spec/30_encoding.md R83, R89). -/

namespace Sys2Proof.Laws

/-- The encoding has the format of the instruction's row of the opcode table, and its word agrees with the row's match
value under the row's mask. -/
def RowMatch.Statement (i : Instr) : Prop :=
  (encode i).word &&& i.row.mask = i.row.pattern ∧
    i.row.isCommand = (match encode i with | .command _ => true | .access _ _ => false)

theorem RowMatch.nop : RowMatch.Statement .nop := by
  unfold RowMatch.Statement; decide

theorem RowMatch.init : RowMatch.Statement .init := by
  unfold RowMatch.Statement; decide

theorem RowMatch.update (n : BitVec 5) : RowMatch.Statement (.update n) := by
  unfold RowMatch.Statement; revert n; decide

theorem RowMatch.finalize : RowMatch.Statement .finalize := by
  unfold RowMatch.Statement; decide

theorem RowMatch.clrerr : RowMatch.Statement .clrerr := by
  unfold RowMatch.Statement; decide

theorem RowMatch.rdId : RowMatch.Statement .rdId := by
  unfold RowMatch.Statement; decide

theorem RowMatch.rdStatus : RowMatch.Statement .rdStatus := by
  unfold RowMatch.Statement; decide

theorem RowMatch.rdData0 : RowMatch.Statement .rdData0 := by
  unfold RowMatch.Statement; decide

theorem RowMatch.rdData1 : RowMatch.Statement .rdData1 := by
  unfold RowMatch.Statement; decide

theorem RowMatch.rdResult : RowMatch.Statement .rdResult := by
  unfold RowMatch.Statement; decide

theorem RowMatch.rdCount : RowMatch.Statement .rdCount := by
  unfold RowMatch.Statement; decide

theorem RowMatch.rdAcc : RowMatch.Statement .rdAcc := by
  unfold RowMatch.Statement; decide

theorem RowMatch.rdFoldLo : RowMatch.Statement .rdFoldLo := by
  unfold RowMatch.Statement; decide

theorem RowMatch.rdFoldHi : RowMatch.Statement .rdFoldHi := by
  unfold RowMatch.Statement; decide

theorem RowMatch.rdTail0 : RowMatch.Statement .rdTail0 := by
  unfold RowMatch.Statement; decide

theorem RowMatch.rdTail1 : RowMatch.Statement .rdTail1 := by
  unfold RowMatch.Statement; decide

theorem RowMatch.rdConst (i : BitVec 3) : RowMatch.Statement (.rdConst i) := by
  unfold RowMatch.Statement; revert i; decide

theorem RowMatch.rdTable (i : BitVec 8) : RowMatch.Statement (.rdTable i) := by
  unfold RowMatch.Statement; revert i; decide

theorem RowMatch.wrCmd (w : Word) : RowMatch.Statement (.wrCmd w) := by
  simp [RowMatch.Statement, encode, Encoding.word, Instr.row]

theorem RowMatch.wrData0 (v : Word) : RowMatch.Statement (.wrData0 v) := by
  simp [RowMatch.Statement, encode, Encoding.word, Instr.row]

theorem RowMatch.wrData1 (v : Word) : RowMatch.Statement (.wrData1 v) := by
  simp [RowMatch.Statement, encode, Encoding.word, Instr.row]

end Sys2Proof.Laws
end

