-- ==== Sys2Proof/Laws/PolyView.lean ====
section
/-! SUPPORT. The polynomial view is additive: XOR of words is the sum of their polynomials (spec/00_scope.md R12). -/

namespace Sys2Proof.Machine

@[simp] theorem bitTerm_false (n : Nat) : bitTerm false n = 0 := rfl

@[simp] theorem bitTerm_true (n : Nat) : bitTerm true n = Polynomial.X ^ n := rfl

/-- In GF(2)[x] a polynomial added to itself vanishes. -/
theorem gf2_add_self (p : GF2Poly) : p + p = 0 := CharTwo.add_self_eq_zero p

theorem bitTerm_xor (a b : Bool) (n : Nat) : bitTerm (a ^^ b) n = bitTerm a n + bitTerm b n := by
  cases a <;> cases b <;> simp [gf2_add_self]

theorem poly64_xor (v w : Word) : poly64 (v ^^^ w) = poly64 v + poly64 w := by
  simp [poly64, bitTerm_xor, Finset.sum_add_distrib]

theorem poly128_xor (v w : Block) : poly128 (v ^^^ w) = poly128 v + poly128 w := by
  simp [poly128, bitTerm_xor, Finset.sum_add_distrib]

theorem polyNormal_xor (v w : Word) : polyNormal (v ^^^ w) = polyNormal v + polyNormal w := by
  simp [polyNormal, bitTerm_xor, Finset.sum_add_distrib]

@[simp] theorem poly64_zero : poly64 0 = 0 := by simp [poly64]

@[simp] theorem poly128_zero : poly128 0 = 0 := by simp [poly128]

@[simp] theorem polyNormal_zero : polyNormal 0 = 0 := by simp [polyNormal]

end Sys2Proof.Machine
end

