-- ==== Sys2Proof/Tests/Slice0.lean ====
section
/-! SUPPORT. Tests of the model's author: decoding, one small test or two for each instruction, the datapath, and for
every obligation with hypotheses a witness that meets them. Expected values are those of spec/95_test_vectors.md or of
the rules' own examples, named beside each test. -/

namespace Sys2Proof.Tests

open Sys2Proof Sys2Proof.Machine

/-! ### Well-formedness: the one check refuses an ill-formed term -/

theorem test_wellFormed_refuses_update_17 : (Instr.update 17).wellFormed = false := by decide

theorem test_wellFormed_accepts_update_16 : (Instr.update 16).wellFormed = true := by decide

/-! ### Decoding: words written out from R83 and R89 -/

/-- The five commands (R83); UPDATE 9 is OP 00000010 with LEN 01001 at bits 12:8. -/
theorem test_decode_commands :
    decode (.command 0x0) = .ok .nop ∧ decode (.command 0x1) = .ok .init ∧
    decode (.command 0b0000100100000010) = .ok (.update 9) ∧ decode (.command 0x3) = .ok .finalize ∧
    decode (.command 0x4) = .ok .clrerr := by decide

/-- The register reads (R89): dir 0 at bit 12, then the offset. -/
theorem test_decode_register_reads :
    decode (.access 0b0000000000000 0) = .ok .rdId ∧ decode (.access 0b0000000010000 0) = .ok .rdStatus ∧
    decode (.access 0b0000000011000 0) = .ok .rdData0 ∧ decode (.access 0b0000000100000 0) = .ok .rdData1 ∧
    decode (.access 0b0000000101000 0) = .ok .rdResult ∧ decode (.access 0b0000000110000 0) = .ok .rdCount ∧
    decode (.access 0b0000000111000 0) = .ok .rdAcc ∧ decode (.access 0b0000001000000 0) = .ok .rdFoldLo ∧
    decode (.access 0b0000001001000 0) = .ok .rdFoldHi ∧ decode (.access 0b0000001010000 0) = .ok .rdTail0 ∧
    decode (.access 0b0000001011000 0) = .ok .rdTail1 := by decide

/-- The ROM reads (R89): the index at bits 5:3 and at bits 10:3. -/
theorem test_decode_rom_reads :
    decode (.access 0b0010000101000 0) = .ok (.rdConst 5) ∧
    decode (.access 0b0110000000000 0) = .ok (.rdTable 0x80) ∧
    decode (.access 0b0111111111000 0) = .ok (.rdTable 0xFF) := by decide

/-- The writes (R89): dir 1 at bit 12. -/
theorem test_decode_writes :
    decode (.access 0b1000000001000 0x902) = .ok (.wrCmd 0x902) ∧
    decode (.access 0b1000000011000 0x61) = .ok (.wrData0 0x61) ∧
    decode (.access 0b1000000100000 0x39) = .ok (.wrData1 0x39) := by decide

/-- V-ERR-1b, V-ERR-2a, V-ERR-2c, V-ERR-3a: rejections of command words by name. -/
theorem test_decode_command_errors :
    decodeCommandWord 0xFF00000000000005 = .error .cmdOpcode ∧ decodeCommandWord 0x0100 = .error .cmdRsvd ∧
    decodeCommandWord 0x8000000000000001 = .error .cmdRsvd ∧ decodeCommandWord 0x1102 = .error .cmdLen := by decide

/-- V-BUS-5a, V-BUS-5d, V-BUS-6b, V-BUS-6c, V-BUS-7a, V-BUS-7e: rejections of accesses by name. -/
theorem test_decode_access_errors :
    decodeAccess (busRead 0x014) = .error .busAlign ∧
    decodeAccess { dir := .write, off := 0x064, size := 4, wdata := 0 } = .error .busAlign ∧
    decodeAccess (busRead 0x3F8) = .error .busUnmapped ∧ decodeAccess (busRead 0x440) = .error .busUnmapped ∧
    decodeAccess (busRead 0x008) = .error .busDir ∧ decodeAccess (busWrite 0xFF8 0) = .error .busDir := by decide

/-- One instruction of each row of the opcode table. -/
def oneOfEachRow : List Instr :=
  [.nop, .init, .update 3, .finalize, .clrerr, .rdId, .rdStatus, .rdData0, .rdData1, .rdResult, .rdCount, .rdAcc,
   .rdFoldLo, .rdFoldHi, .rdTail0, .rdTail1, .rdConst 1, .rdTable 7, .wrCmd 1, .wrData0 2, .wrData1 3]

/-- No word belongs to two rows of the opcode table: rows of one format differ in a bit that both masks fix. -/
theorem test_rows_do_not_overlap :
    (oneOfEachRow.map Instr.row).Pairwise fun r r' =>
      r.isCommand ≠ r'.isCommand ∨ (r.pattern ^^^ r'.pattern) &&& r.mask &&& r'.mask ≠ 0 := by decide

/-- Every row's instruction is what the host's question on the row decodes to and what the first step after reset
runs (log 10). -/
theorem test_table_words :
    decodeTableWord 64 0x1002 = some (.update 16) ∧ decodeTableWord 16 0x1008 = some (.wrCmd 0) ∧
    decodeTableWord 16 0x0008 = none ∧ decodeTableWord 64 0x0005 = none ∧ decodeTableWord 16 0x2000 = none := by decide

/-! ### The datapath -/

/-- V-CLM-4 and V-CLM-6. -/
theorem test_clmul :
    clmul64 0xffffffffffffffff 0xffffffffffffffff = 0x55555555555555555555555555555555 ∧
    clmul64 0x8000000000000000 2 = 0x10000000000000000 := by decide

/-- V-TS-1 and V-TS-5. -/
theorem test_tailStep :
    tailStep 0xffffffffffffffff 0x31 = 0xdc6a5e3cb9e4412d ∧
    tailStep 0xffffffffffffffff 0x00 = 0x2a25afb8101378d7 := by decide

/-- V-FS-2. -/
theorem test_foldStep :
    foldStep 0x45d755602caa717c702304ef7a3d4390 0x2f2e2d2c2b2a29282726252423222120 =
      0x0eb5786b7573886685a1a28e0d7b30b0 := by decide

/-- V-RD-2 and V-RD-9. -/
theorem test_reduce :
    reduce 0x45d755602caa717c702304ef7a3d4390 = 0x46262b57b6d34280 ∧
    reduce 0xffffffffffffffff = 0x46eced5efa7cac84 := by decide

/-- V-ASC-a and V-DER-ZERO, by the bit-serial reference. -/
theorem test_reference :
    crc64nvme [0x61] = 0x8c2f8445b4cbfc3c ∧
    crc64nvme [0xd1, 0xaa, 0xc6, 0x6d, 0x06, 0x75, 0xf8, 0xad] = 0 := by decide +kernel

/-- R92: FEED of 9 bytes is W DATA0, W DATA1, UPDATE 9 (program P1). -/
theorem test_feed_nine_bytes :
    feedLines [0x31, 0x32, 0x33, 0x34, 0x35, 0x36, 0x37, 0x38, 0x39] =
      [.write .data0 0x3837363534333231, .write .data1 0x39, .write .cmd 0x902] := by decide

/-! ### One step of each instruction -/

/-- The state an outcome leaves, if it is a next state. -/
def next? : Outcome → Option State
  | .next s => some s
  | .fault _ => none
  | .refused _ => none

/-- The last data a state answered on the bus. -/
def lastRead (o : Outcome) : Option Response := (next? o).bind fun s => s.responses.getLast?

/-- After `W DATA0`, `W DATA1` and `UPDATE 9` with "123456789" (V-CMD-U9). -/
def nineBytes : State :=
  { State.reset with
    tail := [0x31, 0x32, 0x33, 0x34, 0x35, 0x36, 0x37, 0x38, 0x39]
    count := 9
    data0 := 0x3837363534333231
    data1 := 0x39 }

/-- FINALIZED with the checksum of "123456789" and the error of an UPDATE (V-CMD-UF). -/
def closedState : State :=
  { State.reset with phase := .finalized, acc := 0xae8b14860a799888, count := 9, errState := true, lastErr := 4 }

/-- After the bytes 00 to 1e (V-CMD-X15): FOLD holds the first block, 15 bytes pend. -/
def blockAndTail : State :=
  { State.reset with
    fold := 0x0f0e0d0c0b0a0908f8f9fafbfcfdfeff
    fv := true
    tail := (List.range 15).map fun k => BitVec.ofNat 8 (16 + k)
    count := 31
    data0 := 0x1f }

/-- V-CMD-NOP. -/
theorem test_nop : next? (exec .nop nineBytes) = some (nineBytes.answered 0) := by decide

/-- V-CMD-IF, and R172: the error record stays. -/
theorem test_init : (next? (exec .init closedState)).map (fun s => (s.result, s.acc, s.count, s.status)) =
    some (0, 0xffffffffffffffff, 0, 0x04020000) := by decide

/-- V-CMD-U9. -/
theorem test_update_nine : (next? (exec (.update 9)
      { State.reset with data0 := 0x3837363534333231, data1 := 0x39 })).map (fun s => (s.status, s.tail0, s.tail1)) =
    some (0x900, 0x3837363534333231, 0x39) := by decide

/-- P3 line 9 in small: byte 1f completes block 1, which is folded (V-FS-1). -/
theorem test_update_folds : (next? (exec (.update 1) blockAndTail)).map (fun s => (s.status, s.fold, s.count)) =
    some (0x4, 0x45d755602caa717c702304ef7a3d4390, 32) := by decide

/-- V-CMD-F9. -/
theorem test_finalize_tail : (next? (exec .finalize nineBytes)).map (fun s => (s.status, s.result, s.count, s.tail0)) =
    some (0x1, 0xae8b14860a799888, 9, 0) := by decide +kernel

/-- Clauses (iii) and (v) of R33 contradict each other in any FINALIZED state whose COUNT is no multiple of 16, such as
that of V-CMD-F9 (log 3). -/
theorem test_rule33_unmet_when_finalized (s : State) (hphase : s.phase = .finalized)
    (hcount : s.count.toNat % 16 ≠ 0) : ¬ s.Rule33 := by
  rintro ⟨-, -, hiii, -, hv, -⟩
  exact hcount (hv ▸ (hiii hphase).2.2)

/-- Both hypotheses are met by the state of V-CMD-F9. -/
theorem witness_rule33_unmet_when_finalized :
    closedState.phase = .finalized ∧ closedState.count.toNat % 16 ≠ 0 := by decide

/-- V-LEN-31: one block and 15 tail bytes. -/
theorem test_finalize_block : (next? (exec .finalize blockAndTail)).map (fun s => (s.result, s.fold, s.fv)) =
    some (0x20e642a37cca18ae, 0, false) := by decide +kernel

/-- V-CMD-CLR. -/
theorem test_clrerr : (next? (exec .clrerr closedState)).map State.status = some 0x1 := by decide

theorem test_rdId : lastRead (exec .rdId closedState) = some ⟨.okay, 0x4D564E3436435243⟩ := by decide

theorem test_rdStatus : lastRead (exec .rdStatus closedState) = some ⟨.okay, 0x04020001⟩ := by decide

theorem test_rdData0 : lastRead (exec .rdData0 nineBytes) = some ⟨.okay, 0x3837363534333231⟩ := by decide

theorem test_rdData1 : lastRead (exec .rdData1 nineBytes) = some ⟨.okay, 0x39⟩ := by decide

theorem test_rdResult_closed : lastRead (exec .rdResult closedState) = some ⟨.okay, 0xae8b14860a799888⟩ := by decide

theorem test_rdResult_opened : lastRead (exec .rdResult nineBytes) = some ⟨.okay, 0⟩ := by decide

theorem test_rdCount : lastRead (exec .rdCount blockAndTail) = some ⟨.okay, 31⟩ := by decide

theorem test_rdAcc : lastRead (exec .rdAcc nineBytes) = some ⟨.okay, 0xffffffffffffffff⟩ := by decide

theorem test_rdFoldLo : lastRead (exec .rdFoldLo blockAndTail) = some ⟨.okay, 0xf8f9fafbfcfdfeff⟩ := by decide

theorem test_rdFoldHi : lastRead (exec .rdFoldHi blockAndTail) = some ⟨.okay, 0x0f0e0d0c0b0a0908⟩ := by decide

/-- V-CMD-X15. -/
theorem test_rdTail0 : lastRead (exec .rdTail0 blockAndTail) = some ⟨.okay, 0x1716151413121110⟩ := by decide

/-- V-CMD-X15. -/
theorem test_rdTail1 : lastRead (exec .rdTail1 blockAndTail) = some ⟨.okay, 0x001e1d1c1b1a1918⟩ := by decide

/-- V-ROM-C6. -/
theorem test_rdConst : lastRead (exec (.rdConst 6) closedState) = some ⟨.okay, 0x13f67d194d77cfbb⟩ := by decide

/-- V-ROM-TFE. -/
theorem test_rdTable : lastRead (exec (.rdTable 0xFE) closedState) = some ⟨.okay, 0x55b4a08fdfd90e51⟩ := by decide

/-- V-ERR-2d: CMD_RSVD beats STATE_UPDATE_AFTER_FINAL. -/
theorem test_wrCmd_malformed :
    (next? (exec (.wrCmd 0x2000000000000002) { State.reset with phase := .finalized })).map State.status =
      some 0x02010001 := by decide

/-- V-CMD-F9 through CMD. -/
theorem test_wrCmd_finalize :
    (next? (exec (.wrCmd 0x3) nineBytes)).map State.result = some 0xae8b14860a799888 := by decide +kernel

theorem test_wrData0 : (next? (exec (.wrData0 0x61) nineBytes)).map (fun s => (s.data0, s.data1)) =
    some (0x61, 0x39) := by decide

theorem test_wrData1 : (next? (exec (.wrData1 0x61) nineBytes)).map (fun s => (s.data0, s.data1)) =
    some (0x3837363534333231, 0x61) := by decide

/-- V-BUS-5c: a 4-byte write of DATA0 is refused whole. -/
theorem test_step_refused :
    (next? (step { State.reset with pending := [.access { dir := .write, off := 0x018, size := 4, wdata := 1 }] })).map
      (fun s => (s.data0, s.status, s.responses)) = some (0, 0x05040000, [⟨.error, 0⟩]) := by decide

/-! ### Witnesses: every obligation's hypotheses can be met -/

/-- After reset with one access pending. -/
def waiting (a : Access) : State := State.resetWith [.access a]

/-- The same, FINALIZED. -/
def waitingClosed (a : Access) : State := { closedState with pending := [.access a] }

theorem witness_DecodeOfEncodeIsIdentity :
    (Instr.update 0).WellFormed ∧ (Instr.update 16).WellFormed ∧ (Instr.rdTable 0xFF).WellFormed := by decide

theorem witness_EncodeOfDecodeIsIdentity :
    decode (.command 0x1002) = .ok (.update 16) ∧ decode (.access 0x0FF8 5) = .ok (.rdTable 0xFF) := by decide

theorem witness_OpcodeMapSelectsCommands :
    5 ≤ ((0x05 : Word).extractLsb' 0 8).toNat ∧ 5 ≤ ((0xFF : Word).extractLsb' 0 8).toNat := by decide

theorem witness_AccessCodesSelectForms :
    decodeAccess (Access.ofCode 0x1008 7) = .ok (.wrCmd 7) ∧
    decodeAccess (Access.ofCode 0x0008 0) = .error .busDir := by decide

theorem witness_StepRunsDecodedAccess :
    (waiting (busRead 0xFF8)).pending = .access (busRead 0xFF8) :: [] ∧
    decodeAccess (busRead 0xFF8) = .ok (.rdTable 0xFF) ∧ decodeAccess (busRead 0x7F8) = .error .busUnmapped := by decide

theorem witness_StepRunsEncodedInstruction :
    (Instr.update 16).WellFormed ∧ (waiting (encode (.update 16)).toAccess).pending =
      .access (encode (.update 16)).toAccess :: [] := by decide

theorem witness_TableWordRunsItsRow :
    decodeTableWord 64 0x1002 = some (.update 16) ∧ decodeTableWord 16 0x0FF8 = some (.rdTable 0xFF) := by decide

theorem witness_NoStepIsStuck : State.reset.pending = [] := by decide

theorem witness_ResetEventRestoresEveryRegister :
    { nineBytes with pending := [.reset (some (busWrite 0x008 3))] }.pending =
      .reset (some (busWrite 0x008 3)) :: [] := by decide

theorem witness_IllegalOpcodeIsRecorded :
    5 ≤ ((0x05 : Word).extractLsb' 0 8).toNat ∧ 5 ≤ ((0xFFFFFFFFFFFFFFFF : Word).extractLsb' 0 8).toNat := by decide

theorem witness_ReservedBitsAreRecorded :
    (((0x2000 : Word).extractLsb' 0 8).toNat ≤ 4 ∧ (0x2000 : Word).extractLsb' 13 51 ≠ 0) ∧
    (((0x0104 : Word).extractLsb' 0 8).toNat ≤ 4 ∧ (0x0104 : Word).extractLsb' 0 8 ≠ 0x02 ∧
      (0x0104 : Word).extractLsb' 8 5 ≠ 0) := by decide

theorem witness_LenRangeIsChecked :
    ((0x1102 : Word).extractLsb' 0 8 = 0x02 ∧ (0x1102 : Word).extractLsb' 13 51 = 0 ∧
      17 ≤ ((0x1102 : Word).extractLsb' 8 5).toNat) ∧
    ((0x1F02 : Word).extractLsb' 13 51 = 0 ∧ 17 ≤ ((0x1F02 : Word).extractLsb' 8 5).toNat) ∧
    ((0x0002 : Word).extractLsb' 0 8 = 0x02 ∧ (0x0002 : Word).extractLsb' 13 51 = 0 ∧
      (0x0002 : Word).extractLsb' 8 5 = 0 ∧ State.reset.phase = .opened) := by decide

/-- One access for each of the eight clauses, in their order, each at a boundary of its range. -/
theorem witness_ErrorPriorityAndResponse :
    (waiting { busRead 0x010 with size := 9 }).pending = .access { busRead 0x010 with size := 9 } :: [] ∧
    ((busRead 0x060).size = 8 ∧ 0x060 % 8 = 0 ∧ (busRead 0x3F8).off.toNat = 0x3F8 ∧ (busRead 0x440).off.toNat = 0x440) ∧
    ((busRead 0x008).dir = .read ∧ (busRead 0x008).off.toNat = 0x008 ∧ (busWrite 0x438 0).dir = .write ∧
      (busWrite 0x438 0).off.toNat = 0x438) ∧
    ((busWrite 0x008 0x05).dir = .write ∧ 5 ≤ ((busWrite 0x008 0x05).wdata.extractLsb' 0 8).toNat) ∧
    (((busWrite 0x008 0x2004).wdata.extractLsb' 0 8).toNat ≤ 4 ∧ (busWrite 0x008 0x2004).wdata.extractLsb' 13 51 ≠ 0) ∧
    (((busWrite 0x008 0x1102).wdata.extractLsb' 0 8).toNat = 2 ∧
      17 ≤ ((busWrite 0x008 0x1102).wdata.extractLsb' 8 5).toNat) ∧
    (((busWrite 0x008 0x1002).wdata.extractLsb' 8 5).toNat ≤ 16 ∧
      (waitingClosed (busWrite 0x008 0x1002)).phase = .finalized) ∧
    ((busWrite 0x008 0x1002).wdata.extractLsb' 13 51 = 0 ∧ (waiting (busWrite 0x008 0x1002)).phase = .opened) := by
  decide

theorem witness_MisalignedAccessIsRefused :
    ({ busRead 0x018 with size := 16 }.size ≠ 8) ∧ (busRead 0xFFF).off.toNat % 8 ≠ 0 ∧
    ((busRead 0xFF8).size = 8 ∧ (busRead 0xFF8).off.toNat % 8 = 0 ∧
      (waiting (busRead 0xFF8)).pending = .access (busRead 0xFF8) :: []) := by decide

theorem witness_RecordErrorIsPrecise :
    decodeAccess (busRead 0x008) = .error .busDir ∧ decodeCommandWord 0x05 = .error .cmdOpcode ∧
    (BitVec.toNat (16 : BitVec 5) ≤ 16 ∧ closedState.phase = .finalized) ∧ (ErrCode.cmdOpcode.code.toNat = 1) ∧
    (ErrCode.cmdLen.code.toNat = 3) ∧ (ErrCode.stateUpdateAfterFinal.code.toNat = 4) ∧
    (ErrCode.busAlign.code.toNat = 5) ∧ (ErrCode.busDir.code.toNat = 7) := by decide

theorem witness_ErrorRecordAccumulates :
    ((waiting (busRead 0x008)).pending = .access (busRead 0x008) :: [] ∧ (busRead 0x008).command ≠ some .clrerr ∧
      ∃ t, step (waiting (busRead 0x008)) = .next t) ∧
    (busWrite 0x008 4).command = some .clrerr ∧
    (Instr.rdCount ≠ .rdStatus ∧ ∃ t t', exec .rdCount closedState = .next t ∧
      exec .rdCount { closedState with errCmd := true, errState := false, errBus := true, lastErr := 7 } = .next t') :=
  ⟨⟨by decide, by decide, _, rfl⟩, by decide, by decide, _, _, rfl, rfl⟩

theorem witness_WriteDataStagesItsValue :
    { busWrite 0x018 1 with size := 4 }.dir = .write ∧ { busWrite 0x018 1 with size := 4 }.off = 0x018 ∧
    { busWrite 0x020 1 with size := 4 }.off = 0x020 ∧ { busWrite 0x018 1 with size := 4 }.size ≠ 8 := by decide

theorem witness_WriteCmdExecutesItsWord :
    decodeCommandWord 0x1002 = .ok (.update 16) ∧ decodeCommandWord 0x1102 = .error .cmdLen ∧
    { busWrite 0x008 3 with size := 4 }.dir = .write ∧ { busWrite 0x008 3 with size := 4 }.off = 0x008 ∧
    { busWrite 0x008 3 with size := 4 }.size ≠ 8 := by decide

theorem witness_RegisterReadsAnswerTheValue :
    ((busRead 0x014).dir = .read ∧ (busRead 0x014).off.toNat % 8 ≠ 0) ∧
    ((busRead 0x008).dir = .read ∧ (busRead 0x008).size = 8 ∧ (busRead 0x008).off = 0x008) := by decide

theorem witness_RomReadsAnswerTheWord :
    (waiting (busRead (0x400 + 8 * (7 : BitVec 3).setWidth 12))).pending = .access (busRead 0x438) :: [] ∧
    (waiting (busRead (0x800 + 8 * (255 : BitVec 8).setWidth 12))).pending = .access (busRead 0xFF8) :: [] ∧
    (waiting (busWrite (0x400 + 8 * (0 : BitVec 3).setWidth 12) 5)).pending = .access (busWrite 0x400 5) :: [] ∧
    (0x43F % 8 ≠ 0 ∧ (busRead 0x43F).off.toNat = 0x43F) ∧ { busRead 0x800 with size := 4 }.size ≠ 8 := by decide

theorem witness_RepeatedAccesses :
    ((waiting (busRead 0x000)).pending = .access (busRead 0x000) :: [] ∧ ∃ t, step (waiting (busRead 0x000)) = .next t) ∧
    Instr.rdTail1.isRead = true ∧ (∃ t, exec (.wrData0 5) nineBytes = .next t) ∧
    (∃ t, exec (.wrData1 5) nineBytes = .next t) ∧ (∃ t, exec .init closedState = .next t) ∧
    (∃ t, exec .finalize nineBytes = .next t) ∧
    (BitVec.toNat (16 : BitVec 5) ≤ 16 ∧ nineBytes.phase = .opened ∧ ∃ t, exec (.update 16) nineBytes = .next t) :=
  ⟨⟨by decide, _, rfl⟩, by decide, ⟨_, rfl⟩, ⟨_, rfl⟩, ⟨_, rfl⟩, ⟨_, rfl⟩, by decide, by decide, _, rfl⟩

theorem witness_StatusFields :
    State.reset.tailLen ≤ 15 ∧ blockAndTail.tailLen = 15 ∧ blockAndTail.Inv ∧
    (waiting (busWrite 0x010 0)).pending = .access (busWrite 0x010 0) :: [] := by decide

theorem witness_TailViews : blockAndTail.tailLen ≤ 15 ∧ 7 < 8 ∧
    (waiting (busWrite 0x058 0)).pending = .access (busWrite 0x058 0) :: [] := by decide

theorem witness_ResultView : closedState.phase = .finalized ∧ nineBytes.phase = .opened ∧
    (∃ t, exec .init closedState = .next t) ∧
    (waiting (busWrite 0x028 0)).pending = .access (busWrite 0x028 0) :: [] :=
  ⟨by decide, by decide, ⟨_, rfl⟩, by decide⟩

theorem witness_IdIsConstant : (waiting (busWrite 0x000 0)).pending = .access (busWrite 0x000 0) :: [] := by decide

theorem witness_NopChangesNothing :
    (0x0100 : Word).extractLsb' 0 8 = 0x00 ∧ (0x0100 : Word).extractLsb' 8 56 ≠ 0 := by decide

theorem witness_InitStartsNewDigest : (∃ t, exec .init closedState = .next t) ∧
    (0x8000000000000001 : Word).extractLsb' 0 8 = 0x01 ∧ (0x8000000000000001 : Word).extractLsb' 8 56 ≠ 0 :=
  ⟨⟨_, rfl⟩, by decide, by decide⟩

/-- Both sides of 16 bytes at the boundary, and the three refusals. -/
theorem witness_UpdateConsumesStagedBytes :
    (nineBytes.phase = .opened ∧ nineBytes.tailLen ≤ 15 ∧ (nineBytes.tail ++ nineBytes.stagedBytes 6).length = 15 ∧
      (nineBytes.tail ++ nineBytes.stagedBytes 7).length = 16) ∧
    (blockAndTail.phase = .opened ∧ blockAndTail.tailLen = 15 ∧
      (blockAndTail.tail ++ blockAndTail.stagedBytes 16).length = 31) ∧
    closedState.phase = .finalized ∧ 17 ≤ BitVec.toNat (17 : BitVec 5) ∧
    (0x2002 : Word).extractLsb' 0 8 = 0x02 ∧ (0x2002 : Word).extractLsb' 13 51 ≠ 0 := by decide

theorem witness_PushTakesOneByte :
    { blockAndTail with tail := blockAndTail.tail.take 14 }.tailLen ≤ 14 ∧ blockAndTail.tailLen = 15 ∧
    blockAndTail.fv = true ∧ { blockAndTail with fv := false }.fv = false := by decide

theorem witness_FinalizeClosesDigest : nineBytes.phase = .opened ∧ closedState.phase = .finalized ∧
    (0x0103 : Word).extractLsb' 0 8 = 0x03 ∧ (0x0103 : Word).extractLsb' 8 56 ≠ 0 := by decide

theorem witness_FinalizedStateBehaviour :
    closedState.phase = .finalized ∧ BitVec.toNat (16 : BitVec 5) ≤ 16 ∧ Instr.rdResult.isRead = true := by decide

theorem witness_ClrerrClearsErrorRecord :
    (0x0104 : Word).extractLsb' 0 8 = 0x04 ∧ (0x0104 : Word).extractLsb' 8 56 ≠ 0 := by decide

theorem witness_StateRegisterWriters :
    ((∃ t, exec (.wrCmd 1) closedState = .next t) ∧ (Instr.wrCmd 1).runs = some .init) ∧
    ((∃ t, exec .finalize nineBytes = .next t) ∧ Instr.finalize.runs = some .finalize) ∧
    ((∃ t, exec (.update 9) nineBytes = .next t) ∧ (Instr.update 9).runs ≠ some .init ∧
      (Instr.update 9).runs ≠ some .finalize) ∧
    (decodeAccess (busRead 0x060) = .error .busUnmapped ∧ ∃ t, step (waiting (busRead 0x060)) = .next t) ∧
    ∃ t, step { nineBytes with pending := [.reset none] } = .next t :=
  ⟨⟨⟨_, rfl⟩, by decide⟩, ⟨⟨_, rfl⟩, by decide⟩, ⟨⟨_, rfl⟩, by decide, by decide⟩, ⟨by decide, _, rfl⟩, _, rfl⟩

theorem witness_CountCountsBytes :
    (BitVec.toNat (16 : BitVec 5) ≤ 16 ∧ nineBytes.phase = .opened ∧ ∃ t, exec (.update 16) nineBytes = .next t) ∧
    (∃ t, exec .init nineBytes = .next t) ∧ (∃ t, step { nineBytes with pending := [.reset none] } = .next t) ∧
    (∃ t, exec .finalize nineBytes = .next t) ∧
    (Instr.finalize ≠ .rdCount ∧ ∃ t', exec .finalize { nineBytes with count := 0xFFFFFFFFFFFFFFFF } = .next t') :=
  ⟨⟨by decide, by decide, _, rfl⟩, ⟨_, rfl⟩, ⟨_, rfl⟩, ⟨_, rfl⟩, by decide, _, rfl⟩

theorem witness_StagingRegisters :
    (∃ t, exec (.wrData0 5) nineBytes = .next t) ∧ (∃ t, exec (.wrData1 5) nineBytes = .next t) ∧
    ((∃ t, exec .finalize nineBytes = .next t) ∧ ∀ v, Instr.finalize ≠ .wrData0 v) ∧
    (Instr.finalize.isUpdate = false ∧ Instr.finalize ≠ .rdData0 ∧ Instr.finalize ≠ .rdData1 ∧
      ∃ t', exec .finalize { nineBytes with data0 := 1, data1 := 2 } = .next t') :=
  ⟨⟨_, rfl⟩, ⟨_, rfl⟩, ⟨⟨_, rfl⟩, nofun⟩, by decide, by decide, by decide, _, rfl⟩

theorem witness_DataLaneOrder :
    (7 < 8 ∧ 8 ≤ 8 ∧ 15 < 16) ∧ (BitVec.toNat (16 : BitVec 5) ≤ 16 ∧ nineBytes.phase = .opened) ∧
    (∀ j, j < BitVec.toNat (9 : BitVec 5) →
      laneByte 0x3837363534333231 0xFFFFFFFFFFFFFF39 j = laneByte nineBytes.data0 nineBytes.data1 j) ∧
    ∃ t t', exec (.update 9) nineBytes = .next t ∧
      exec (.update 9) { nineBytes with data0 := 0x3837363534333231, data1 := 0xFFFFFFFFFFFFFF39 } = .next t' :=
  ⟨by decide, by decide, by decide, _, _, rfl, rfl⟩

theorem witness_StepKeepsInvariant :
    { blockAndTail with pending := [.access (busWrite 0x008 0x3)] }.Inv ∧
    ∃ t, step { blockAndTail with pending := [.access (busWrite 0x008 0x3)] } = .next t := ⟨by decide, _, rfl⟩

theorem witness_Rule33AsWrittenHoldsOnEveryRun : Reachable State.reset := ⟨[], 0, rfl⟩

theorem witness_ClmulIsCarrylessProduct : 127 < 128 := by decide

theorem witness_TailStepAndAbsorb :
    (0xFF00000000000031 : Word).extractLsb' 0 8 = (0x31 : Word).extractLsb' 0 8 := by decide

theorem witness_ReferencePolynomialLaw : [0x31, 0x32].length = [(0xFF : Byte), 0x00].length := by decide

theorem witness_ConstantsRomContents : 63 < 64 ∧ ∃ t, exec .init closedState = .next t := ⟨by decide, _, rfl⟩

/-- The digest of "123456789" in OPEN, with an UPDATE pending. -/
theorem witness_DigestStandsForItsStream :
    (∃ t, exec .init closedState = .next t) ∧
    (nineBytes.Represents [0x31, 0x32, 0x33, 0x34, 0x35, 0x36, 0x37, 0x38, 0x39]) ∧
    keepsStream (.access (busWrite 0x008 0x1002)) = true ∧
    ∃ t, step { nineBytes with pending := [.access (busWrite 0x008 0x1002)] } = .next t :=
  ⟨⟨_, rfl⟩, by unfold State.Represents; decide, by decide, _, rfl⟩

theorem witness_ChunkBoundaryIndependence :
    (∀ e ∈ [HostEvent.access (busWrite 0x008 0x1002), .access (busRead 0x008)], keepsStream e = true) ∧
    { nineBytes with pending := [.access (busWrite 0x008 0x1), .access (busWrite 0x008 0x1002), .access (busRead 0x008),
      .access (busWrite 0x008 0x3)] }.pending =
      .access (encode .init).toAccess :: ([.access (busWrite 0x008 0x1002), .access (busRead 0x008)] ++
        .access (encode .finalize).toAccess :: []) := by decide

theorem witness_CrcPseudoInstructionGivesChecksum :
    { blockAndTail with pending := hostEvents (crcLines [0x31]) }.pending = hostEvents (crcLines [0x31]) ++ [] := by
  decide

theorem witness_SingleBitChangeIsDetected : 0 < [(0x31 : Byte)].length ∧ 7 < 8 := by decide

theorem witness_InstancesShareNoState :
    (1 ≠ 0 ∧ ∃ p', ({ instances := [nineBytes, closedState] } : Platform).stepInstance 0 = .next p') ∧
    (({ instances := [nineBytes, closedState] } : Platform).instances[0]? = some nineBytes ∧
      ∃ t, step nineBytes = .next t) ∧ 0 < Config.nInst :=
  ⟨⟨by decide, _, rfl⟩, ⟨rfl, _, rfl⟩, Nat.succ_pos _⟩

end Sys2Proof.Tests
end

namespace Sys2Proof.Machine

/-! ### Shifts of the reference register (R110) -/

@[simp] theorem crcShifts_zero (r : Word) : crcShifts 0 r = r := rfl

theorem crcShifts_add (m n : Nat) (r : Word) : crcShifts (m + n) r = crcShifts n (crcShifts m r) := by
  induction m generalizing r with
  | zero => simp
  | succ m ih => rw [Nat.add_right_comm]; exact ih (crcShift r)

theorem crcReg_append (r : Word) (bs cs : List Byte) : crcReg r (bs ++ cs) = crcReg (crcReg r bs) cs :=
  List.foldl_append

/-- While only zeros leave, `n` shifts are a plain right shift. -/
theorem crcShifts_of_low_zero (n : Nat) (r : Word) (h : ∀ i < n, r.getLsbD i = false) :
    crcShifts n r = r >>> n := by
  induction n generalizing r with
  | zero => simp
  | succ n ih =>
    have hstep : crcShift r = r >>> 1 := if_neg (by simp only [h 0 n.succ_pos, Bool.false_eq_true, not_false_iff])
    have hrest : ∀ i < n, (r >>> 1).getLsbD i = false := fun i hi => by
      rw [BitVec.getLsbD_ushiftRight]; exact h (1 + i) (by omega)
    calc crcShifts (n + 1) r = crcShifts n (r >>> 1) := by rw [crcShifts, hstep]
      _ = r >>> (n + 1) := by rw [ih _ hrest, ← BitVec.shiftRight_add, Nat.add_comm]

/-- Shifts undo a left shift that loses no bit. -/
theorem crcShifts_shiftLeft (n : Nat) (r : Word) (h : r.toNat * 2 ^ n < 2 ^ 64) :
    crcShifts n (r <<< n) = r := by
  rw [crcShifts_of_low_zero n _ fun i hi => by simp [hi]]
  apply BitVec.eq_of_toNat_eq
  rw [BitVec.toNat_ushiftRight, BitVec.toNat_shiftLeft, Nat.shiftLeft_eq, Nat.mod_eq_of_lt h,
    Nat.shiftRight_eq_div_pow, Nat.mul_div_cancel _ (by positivity)]

/-- The low `n` bits of a word, at full width. -/
def lowBits (w : Word) (n : Nat) : Word := (w.setWidth n).setWidth 64

theorem lowBits_getLsbD (w : Word) (n i : Nat) : (lowBits w n).getLsbD i = (decide (i < n) && w.getLsbD i) := by
  by_cases h : i < 64
  · simp [lowBits, h]
  · simp [lowBits, h, BitVec.getLsbD_of_ge w i (by omega)]

theorem crcShifts_eq_low_xor_high (n : Nat) (r : Word) :
    crcShifts n r = crcShifts n (lowBits r n) ^^^ (r >>> n) := by
  have hsplit : r = lowBits r n ^^^ ((r >>> n) <<< n) := by
    apply BitVec.eq_of_getLsbD_eq
    intro i hi
    rw [BitVec.getLsbD_xor, lowBits_getLsbD, BitVec.getLsbD_shiftLeft, BitVec.getLsbD_ushiftRight]
    by_cases h : i < n
    · simp [h]
    · simp [h, hi, show n + (i - n) = i by omega]
  have hfit : (r >>> n).toNat * 2 ^ n < 2 ^ 64 := by
    rw [BitVec.toNat_ushiftRight, Nat.shiftRight_eq_div_pow]
    exact (Nat.div_mul_le_self _ _).trans_lt r.isLt
  conv_lhs => rw [hsplit]
  rw [crcShifts_xor, crcShifts_shiftLeft n _ hfit]

/-- The next byte lane above the low `8 n` bits. -/
theorem lowBits_succ_lane (w : Word) (n : Nat) :
    lowBits w (8 * (n + 1)) = lowBits w (8 * n) ^^^ ((w.extractLsb' (8 * n) 8).setWidth 64 <<< (8 * n)) := by
  apply BitVec.eq_of_getLsbD_eq
  intro i hi
  simp only [BitVec.getLsbD_xor, lowBits_getLsbD, BitVec.getLsbD_shiftLeft, BitVec.getLsbD_setWidth,
    BitVec.getLsbD_extractLsb', hi]
  rcases Nat.lt_or_ge i (8 * n) with hlow | hge
  · simp [hlow, show i < 8 * (n + 1) by omega]
  · obtain ⟨d, rfl⟩ := Nat.exists_eq_add_of_le hge
    simp [show d < 64 by omega, show (8 * n + d < 8 * (n + 1)) ↔ d < 8 by omega]

/-- The byte lanes of a word, lane 0 first. -/
def wordLanes (w : Word) (n : Nat) : List Byte := (List.range n).map fun k => w.extractLsb' (8 * k) 8

/-- Feeding the first `n` lanes of a word, byte by byte, is XORing them in at once and shifting `8 n` times. -/
theorem crcReg_wordLanes (r w : Word) (n : Nat) (hn : n ≤ 8) :
    crcReg r (wordLanes w n) = crcShifts (8 * n) (r ^^^ lowBits w (8 * n)) := by
  induction n with
  | zero => simp [wordLanes, lowBits, BitVec.of_length_zero]
  | succ n ih =>
    have hlanes : wordLanes w (n + 1) = wordLanes w n ++ [w.extractLsb' (8 * n) 8] := by
      simp [wordLanes, List.range_succ]
    have hfit : ((w.extractLsb' (8 * n) 8).setWidth 64).toNat * 2 ^ (8 * n) < 2 ^ 64 := by
      have hb : ((w.extractLsb' (8 * n) 8).setWidth 64).toNat < 2 ^ 8 := by
        rw [BitVec.toNat_setWidth_of_le (by omega)]; exact BitVec.isLt _
      calc _ < 2 ^ 8 * 2 ^ (8 * n) := by gcongr
        _ = 2 ^ (8 + 8 * n) := (pow_add 2 8 (8 * n)).symm
        _ ≤ 2 ^ 64 := Nat.pow_le_pow_right (by decide) (by omega)
    calc crcReg r (wordLanes w (n + 1))
        = crcShifts 8 (crcShifts (8 * n) (r ^^^ lowBits w (8 * n)) ^^^ (w.extractLsb' (8 * n) 8).setWidth 64) := by
          rw [hlanes, crcReg_append, ih (by omega)]; rfl
      _ = crcShifts 8 (crcShifts (8 * n) (r ^^^ lowBits w (8 * (n + 1)))) := by
          rw [lowBits_succ_lane, ← BitVec.xor_assoc, crcShifts_xor (8 * n) (r ^^^ _), crcShifts_shiftLeft _ _ hfit]
      _ = crcShifts (8 * (n + 1)) (r ^^^ lowBits w (8 * (n + 1))) := by
          rw [← crcShifts_add]; rfl

theorem blockBytes_eq_wordLanes (v : Block) :
    blockBytes v = wordLanes (lowHalf v) 8 ++ wordLanes (highHalf v) 8 := by
  have hlow (k : Nat) (hk : k < 8) : (lowHalf v).extractLsb' (8 * k) 8 = v.extractLsb' (8 * k) 8 := by
    apply BitVec.eq_of_getLsbD_eq
    intro i hi
    simp [lowHalf, hi, show 8 * k + i < 64 by omega]
  have hhigh (k : Nat) (hk : k < 8) : (highHalf v).extractLsb' (8 * k) 8 = v.extractLsb' (8 * (8 + k)) 8 := by
    apply BitVec.eq_of_getLsbD_eq
    intro i hi
    simp [highHalf, hi, show 8 * k + i < 64 by omega, show 8 * (8 + k) + i = 64 + (8 * k + i) by omega]
  rw [blockBytes, show 16 = 8 + 8 from rfl, List.range_add, List.map_append, List.map_map, wordLanes, wordLanes]
  congr 1 <;> refine List.map_congr_left fun k hk => ?_
  · exact (hlow k (List.mem_range.mp hk)).symm
  · exact (hhigh k (List.mem_range.mp hk)).symm

/-- The register after the 16 bytes of a block, one half at a time. -/
theorem crcReg_blockBytes (r : Word) (v : Block) :
    crcReg r (blockBytes v) = crcShifts 64 (crcShifts 64 (r ^^^ lowHalf v) ^^^ highHalf v) := by
  have hfull (w : Word) : lowBits w (8 * 8) = w := by simp [lowBits]
  rw [blockBytes_eq_wordLanes, crcReg_append, crcReg_wordLanes _ _ 8 le_rfl, crcReg_wordLanes _ _ 8 le_rfl,
    hfull, hfull]

/-! ### The tail processor (R115, R148) -/

/-- Every word of the listing is the generator's (R115). -/
theorem romTable_eq_tableGen : ∀ i : BitVec 8, romTable i = tableGen i := by decide +kernel

/-- One TAIL_STEP is one byte of the reference (R148): the low byte goes through the table, the other bits only move. -/
theorem tailStep_eq_crcByte (acc : Word) (b : Byte) : tailStep acc b = crcByte acc b := by
  have hrest : (acc ^^^ b.setWidth 64) >>> 8 = acc >>> 8 := by
    rw [BitVec.ushiftRight_xor_distrib, show b.setWidth 64 >>> 8 = 0#64 from ?_, BitVec.xor_zero]
    apply BitVec.eq_of_getLsbD_eq
    intro i _
    rw [BitVec.getLsbD_ushiftRight, BitVec.getLsbD_setWidth, BitVec.getLsbD_of_ge b (8 + i) (by omega)]
    simp
  rw [crcByte, crcShifts_eq_low_xor_high, hrest, tailStep, romTable_eq_tableGen, tableGen, lowBits,
    BitVec.setWidth_eq_extractLsb' (w := 8) (by decide)]

theorem tailSteps_eq_crcReg (acc : Word) (bs : List Byte) : tailSteps acc bs = crcReg acc bs := by
  induction bs generalizing acc with
  | nil => rfl
  | cons b bs ih => rw [tailSteps_cons, crcReg_cons, tailStep_eq_crcByte, ih]

/-! ### Linear maps agree when they agree on the one-hot words -/

theorem lowBits_succ (a : Word) (n : Nat) :
    lowBits a (n + 1) = lowBits a n ^^^ (if a.getLsbD n then 1#64 <<< n else 0#64) := by
  apply BitVec.eq_of_getLsbD_eq
  intro i hi
  rw [BitVec.getLsbD_xor, lowBits_getLsbD, lowBits_getLsbD]
  rcases Nat.lt_trichotomy i n with h | rfl | h
  · cases a.getLsbD n <;> simp [h, show i < n + 1 by omega]
  · cases h : a.getLsbD i <;> simp [hi]
  · cases a.getLsbD n <;>
      simp [show ¬ i < n by omega, show ¬ i < n + 1 by omega, show ¬ i - n = 0 by omega]

/-- Two maps that are linear over XOR agree when they agree on the 64 one-hot words. -/
theorem eq_of_eq_on_oneHot {f g : Word → Word} (hf : ∀ a b, f (a ^^^ b) = f a ^^^ f b)
    (hg : ∀ a b, g (a ^^^ b) = g a ^^^ g b) (h : ∀ i : Fin 64, f (1#64 <<< i.val) = g (1#64 <<< i.val)) (a : Word) :
    f a = g a := by
  have map_zero {f : Word → Word} (hf : ∀ a b, f (a ^^^ b) = f a ^^^ f b) : f 0#64 = 0#64 := by
    simpa using hf 0#64 0#64
  have low : ∀ n ≤ 64, f (lowBits a n) = g (lowBits a n) := by
    intro n hn
    induction n with
    | zero => rw [lowBits, BitVec.of_length_zero (x := a.setWidth 0), BitVec.setWidth_zero, map_zero hf, map_zero hg]
    | succ n ih =>
      rw [lowBits_succ, hf, hg, ih (by omega)]
      cases a.getLsbD n
      · simp [map_zero hf, map_zero hg]
      · exact congrArg _ (h ⟨n, by omega⟩)
  simpa [lowBits] using low 64 le_rfl

/-! ### The folding engine (R144 to R150) -/

/-- The register after a block's 128 bits, short of the last 64 shifts (`crcReg_blockBytes`). -/
def halfReduce (v : Block) : Word := crcShifts 64 (lowHalf v) ^^^ highHalf v

/-- The Barrett steps of REDUCE (R146): a word times x^64, modulo P. -/
def barrett (a : Word) : Word := (clmul64 (a ^^^ lowHalf (clmul64 a muR <<< 1)) polyR).extractLsb' 63 64

theorem halfReduce_xor (v w : Block) : halfReduce (v ^^^ w) = halfReduce v ^^^ halfReduce w := by
  simp only [halfReduce, lowHalf_xor, highHalf_xor, crcShifts_xor]
  ac_nf

theorem barrett_xor (a b : Word) : barrett (a ^^^ b) = barrett a ^^^ barrett b := by
  simp only [barrett, clmul64_xor_left, BitVec.shiftLeft_xor_distrib, lowHalf_xor, BitVec.extractLsb'_xor]
  ac_nf

/-- MU_R and POLY_R do what 64 shifts do (R119, R146). -/
theorem barrett_eq_crcShifts (a : Word) : barrett a = crcShifts 64 a :=
  eq_of_eq_on_oneHot barrett_xor (crcShifts_xor 64) (by decide +kernel) a

/-- K_LO stands for 128 shifts (R118). -/
theorem halfReduce_clmul64_kLo (a : Word) : halfReduce (clmul64 a kLo) = crcShifts 128 a :=
  eq_of_eq_on_oneHot (f := fun a => halfReduce (clmul64 a kLo))
    (fun a b => by rw [clmul64_xor_left, halfReduce_xor]) (crcShifts_xor 128) (by decide +kernel) a

/-- K_HI stands for 192 shifts (R117). -/
theorem halfReduce_clmul64_kHi (a : Word) : halfReduce (clmul64 a kHi) = crcShifts 192 a :=
  eq_of_eq_on_oneHot (f := fun a => halfReduce (clmul64 a kHi))
    (fun a b => by rw [clmul64_xor_left, halfReduce_xor]) (crcShifts_xor 192) (by decide +kernel) a

@[simp] theorem lowHalf_setWidth (a : Word) : lowHalf (a.setWidth 128) = a := by
  apply BitVec.eq_of_getLsbD_eq
  intro i hi
  simp [lowHalf, hi, show i < 128 by omega]

@[simp] theorem highHalf_setWidth (a : Word) : highHalf (a.setWidth 128) = 0 := by
  apply BitVec.eq_of_getLsbD_eq
  intro i hi
  simp [highHalf]

/-- REDUCE is the remaining shifts of the fold register (R147). -/
theorem reduce_eq_crcShifts (f : Block) : reduce f = crcShifts 64 (halfReduce f) := by
  have hreduce (g : Block) (hg : g = clmul64 (lowHalf f) kLo ^^^ (highHalf f).setWidth 128) :
      reduce f = barrett (lowHalf g) ^^^ highHalf g := by subst hg; rfl
  calc reduce f = halfReduce (clmul64 (lowHalf f) kLo ^^^ (highHalf f).setWidth 128) := by
        rw [hreduce _ rfl, barrett_eq_crcShifts, halfReduce]
    _ = crcShifts 128 (lowHalf f) ^^^ crcShifts 64 (highHalf f) := by
        rw [halfReduce_xor, halfReduce_clmul64_kLo]; simp [halfReduce]
    _ = crcShifts 64 (halfReduce f) := by
        rw [halfReduce, crcShifts_xor, ← crcShifts_add]

/-- The absorb law (R149). -/
theorem reduce_absorb (v : Block) (acc : Word) : reduce (absorb v acc) = crcReg acc (blockBytes v) := by
  rw [reduce_eq_crcShifts, crcReg_blockBytes, halfReduce, absorb, lowHalf_xor, highHalf_xor]
  simp [BitVec.xor_comm acc]

theorem halfReduce_foldStep (f v : Block) :
    halfReduce (foldStep f v) = crcShifts 64 (reduce f) ^^^ halfReduce v := by
  have hfold : foldStep f v = clmul64 (lowHalf f) kHi ^^^ clmul64 (highHalf f) kLo ^^^ v := rfl
  have hreduce : crcShifts 64 (reduce f) = crcShifts 192 (lowHalf f) ^^^ crcShifts 128 (highHalf f) := by
    rw [reduce_eq_crcShifts, halfReduce, ← crcShifts_add, crcShifts_xor, ← crcShifts_add]
  rw [hfold, halfReduce_xor, halfReduce_xor, halfReduce_clmul64_kHi, halfReduce_clmul64_kLo, hreduce]

/-- The fold law, after REDUCE (R145, R150): folding a block is feeding its bytes. -/
theorem reduce_foldStep (f v : Block) : reduce (foldStep f v) = crcReg (reduce f) (blockBytes v) := by
  rw [reduce_eq_crcShifts, halfReduce_foldStep, crcReg_blockBytes, crcShifts_xor 64 (reduce f), halfReduce,
    BitVec.xor_assoc]

end Sys2Proof.Machine

namespace Sys2Proof.Machine

/-! ### Byte lanes (R30, R53) -/

/-- Lane `k` of packed bytes is byte `k`, 0 where there is none. -/
theorem packLanes_lane {w : Nat} (bs : List Byte) (k : Nat) (h : 8 * k + 8 ≤ w) :
    (packLanes w bs).extractLsb' (8 * k) 8 = bs.getD k 0 := by
  induction bs generalizing k with
  | nil => simp [packLanes]
  | cons b bs ih =>
    apply BitVec.eq_of_getLsbD_eq
    intro i hi
    cases k with
    | zero =>
      simp [packLanes, hi, show i < w by omega]
    | succ k =>
      have hlane := congrArg (·.getLsbD i) (ih k (by omega))
      simpa [packLanes, hi, show 8 * (k + 1) + i < w by omega, show ¬ 8 * (k + 1) + i < 8 by omega,
        BitVec.getLsbD_of_ge b (8 * (k + 1) + i) (by omega), show 8 * (k + 1) + i - 8 = 8 * k + i by omega,
        show 8 * k + i < w by omega] using hlane

/-- The bytes of a packed block are the bytes that were packed. -/
theorem blockBytes_packLanes (bs : List Byte) (h : bs.length = 16) : blockBytes (packLanes 128 bs) = bs := by
  apply List.ext_getElem
  · simp [blockBytes, h]
  · intro k hk hk'
    rw [h] at hk'
    simp only [blockBytes, List.getElem_map, List.getElem_range]
    rw [packLanes_lane bs k (by omega), List.getD_eq_getElem]

/-! ### The stream in blocks and a tail (R34) -/

theorem blockPrefix_append_tailOf (S : List Byte) : blockPrefix S ++ tailOf S = S :=
  List.take_append_drop _ S

theorem tailOf_length (S : List Byte) : (tailOf S).length = S.length % 16 := by
  simp only [tailOf, List.length_drop]
  omega

section
variable {S : List Byte} (b : Byte)

theorem blockPrefix_snoc_of_short (h : S.length % 16 ≠ 15) : blockPrefix (S ++ [b]) = blockPrefix S := by
  rw [blockPrefix, blockPrefix, List.length_append, List.length_singleton,
    show (S.length + 1) / 16 = S.length / 16 by omega, List.take_append_of_le_length (by omega)]

theorem tailOf_snoc_of_short (h : S.length % 16 ≠ 15) : tailOf (S ++ [b]) = tailOf S ++ [b] := by
  rw [tailOf, tailOf, List.length_append, List.length_singleton,
    show (S.length + 1) / 16 = S.length / 16 by omega, List.drop_append_of_le_length (by omega)]

theorem tailOf_snoc_of_full (h : S.length % 16 = 15) : tailOf (S ++ [b]) = [] := by
  apply List.eq_nil_of_length_eq_zero
  rw [tailOf_length, List.length_append, List.length_singleton]
  omega

theorem blockPrefix_snoc_of_full (h : S.length % 16 = 15) :
    blockPrefix (S ++ [b]) = blockPrefix S ++ (tailOf S ++ [b]) := by
  rw [← List.append_assoc, blockPrefix_append_tailOf]
  conv_rhs => rw [← blockPrefix_append_tailOf (S ++ [b]), tailOf_snoc_of_full b h, List.append_nil]

end

/-! ### What keeps and what extends the digest (R34) -/

@[simp] theorem State.represents_respond (s : State) (r : Response) (S : List Byte) :
    (s.respond r).Represents S ↔ s.Represents S := Iff.rfl

@[simp] theorem State.represents_recordError (s : State) (e : ErrCode) (S : List Byte) :
    (s.recordError e).Represents S ↔ s.Represents S := Iff.rfl

@[simp] theorem State.represents_clearErrors (s : State) (S : List Byte) :
    s.clearErrors.Represents S ↔ s.Represents S := Iff.rfl

/-- The digest of the empty stream (R36, R172). -/
theorem State.startDigest_represents (s : State) : s.startDigest.Represents [] :=
  ⟨rfl, rfl, rfl, rfl, fun _ => ⟨rfl, rfl⟩, nofun⟩

/-- FOLD after a block, reduced, is the register after the block's bytes (R145, R149). -/
theorem State.reduce_takeBlock_fold (s : State) (v : Block) :
    reduce (s.takeBlock v).fold = crcReg (if s.fv then reduce s.fold else s.acc) (blockBytes v) := by
  cases h : s.fv <;> simp [h, reduce_absorb, reduce_foldStep]

section
variable {s : State} {S : List Byte} (h : s.Represents S)
include h

theorem State.Represents.tailLen_eq : s.tailLen = S.length % 16 := by
  obtain ⟨-, -, -, htail, -⟩ := h
  rw [State.tailLen, htail, tailOf_length]

/-- The register after the complete blocks, from FOLD when one is there and from ACC when none is. -/
theorem State.Represents.register_eq :
    (if s.fv then reduce s.fold else s.acc) = crcReg initReg (blockPrefix S) := by
  obtain ⟨-, hacc, -, -, hempty, hfold⟩ := h
  cases hfv : s.fv
  · simp [hacc, (hempty hfv).1]
  · simp [(hfold hfv).2]

/-- PUSH appends its byte to the stream (R175). -/
theorem State.Represents.push (b : Byte) : (s.push b).Represents (S ++ [b]) := by
  have hlen := h.tailLen_eq
  have hreg := h.register_eq
  obtain ⟨hphase, hacc, hcount, htail, hempty, hfold⟩ := h
  have hcount' : s.count + 1 = BitVec.ofNat 64 (S ++ [b]).length := by simp [hcount, BitVec.ofNat_add]
  by_cases hfull : s.tailLen = 15
  · have hmod : S.length % 16 = 15 := hlen ▸ hfull
    have hblock : blockBytes (packLanes 128 (s.tail ++ [b])) = s.tail ++ [b] :=
      blockBytes_packLanes _ (by simpa [State.tailLen] using hfull)
    rw [State.push_of_full s b hfull]
    refine ⟨by simpa, by simpa, by simpa using hcount', by simp [tailOf_snoc_of_full b hmod], by simp, fun _ => ?_⟩
    rw [blockPrefix_snoc_of_full b hmod, State.reduce_takeBlock_fold, hblock, crcReg_append (bs := blockPrefix S),
      ← hreg, htail]
    exact ⟨by simp, rfl⟩
  · have hmod : S.length % 16 ≠ 15 := hlen ▸ hfull
    rw [State.push_of_short s b hfull]
    exact ⟨hphase, hacc, hcount', by simp [tailOf_snoc_of_short b hmod, htail],
      by rw [blockPrefix_snoc_of_short b hmod]; exact hempty,
      by rw [blockPrefix_snoc_of_short b hmod]; exact hfold⟩

theorem State.Represents.pushAll (bs : List Byte) : (s.pushAll bs).Represents (S ++ bs) := by
  induction bs generalizing s S with
  | nil => simpa using h
  | cons b bs ih => simpa using ih (h.push b)

/-- FINALIZE's first two steps give the reference register after the whole stream (R34, R177). -/
theorem State.Represents.crcReg_eq :
    crcReg initReg S = tailSteps (if s.fv then reduce s.fold else s.acc) s.tail := by
  rw [h.register_eq, tailSteps_eq_crcReg, h.2.2.2.1, ← crcReg_append, blockPrefix_append_tailOf]

end

end Sys2Proof.Machine

namespace Sys2Proof.Machine

/-! ### What an instruction can do, said once -/

/-- The value a read form answers (R183, R184). -/
def readWord (s : State) : Instr → Word
  | .rdId => idWord
  | .rdStatus => s.status
  | .rdData0 => s.data0
  | .rdData1 => s.data1
  | .rdResult => s.result
  | .rdCount => s.count
  | .rdAcc => s.acc
  | .rdFoldLo => s.foldLo
  | .rdFoldHi => s.foldHi
  | .rdTail0 => s.tail0
  | .rdTail1 => s.tail1
  | .rdConst i => romConst i
  | .rdTable i => romTable i
  | .nop | .init | .update _ | .finalize | .clrerr | .wrCmd _ | .wrData0 _ | .wrData1 _ => 0

/-- An instruction runs a command, reads, records the error of a malformed word, or stages a value. -/
theorem exec_kinds (i : Instr) :
    (∃ c, i.runs = some c ∧ ∀ s, exec i s = execCommand c s) ∨
    (i.runs = none ∧ i.isRead = true ∧ ∀ s, exec i s = .next (s.respond (okay (readWord s i)))) ∨
    (i.runs = none ∧ ∃ w e, i = .wrCmd w ∧ decodeCommandWord w = .error e ∧
      ∀ s, exec i s = .next (s.raiseCmdError e)) ∨
    (i.runs = none ∧ ∃ v, i = .wrData0 v) ∨
    (i.runs = none ∧ ∃ v, i = .wrData1 v) := by
  cases i with
  | nop | init | update | finalize | clrerr => exact .inl ⟨_, rfl, fun _ => rfl⟩
  | wrCmd w =>
    cases h : decodeCommandWord w with
    | ok c => exact .inl ⟨c, by simp [Instr.runs, h], fun s => execWrCmd_ok w s c h⟩
    | error e =>
      exact .inr (.inr (.inl ⟨by simp [Instr.runs, h], w, e, rfl, h, fun s => execWrCmd_error w s e h⟩))
  | wrData0 v => exact .inr (.inr (.inr (.inl ⟨rfl, v, rfl⟩)))
  | wrData1 v => exact .inr (.inr (.inr (.inr ⟨rfl, v, rfl⟩)))
  | _ => exact .inr (.inl ⟨rfl, rfl, fun _ => rfl⟩)

end Sys2Proof.Machine

namespace Sys2Proof.Machine

/-! ### UPDATE and FINALIZE, case by case -/

theorem execUpdate_of_long {n : BitVec 5} (s : State) (h : 16 < n.toNat) :
    execUpdate n s = .next (s.raiseCmdError .cmdLen) := if_pos h

theorem execUpdate_of_finalized {n : BitVec 5} {s : State} (h : n.toNat ≤ 16) (hphase : s.phase = .finalized) :
    execUpdate n s = .next (s.raiseCmdError .stateUpdateAfterFinal) := by
  simp [execUpdate, hphase, show ¬ 16 < n.toNat by omega]

theorem execUpdate_of_opened {n : BitVec 5} {s : State} (h : n.toNat ≤ 16) (hphase : s.phase = .opened) :
    execUpdate n s = .next ((s.pushAll (s.stagedBytes n.toNat)).respond (okay 0)) := by
  simp [execUpdate, hphase, show ¬ 16 < n.toNat by omega]

/-- UPDATE records an error, or pushes its staged bytes. -/
theorem execUpdate_cases (n : BitVec 5) (s : State) :
    (∃ e, execUpdate n s = .next (s.raiseCmdError e)) ∨
    (n.toNat ≤ 16 ∧ s.phase = .opened ∧
      execUpdate n s = .next ((s.pushAll (s.stagedBytes n.toNat)).respond (okay 0))) := by
  rcases Nat.lt_or_ge 16 n.toNat with hlong | hlen
  · exact .inl ⟨_, execUpdate_of_long s hlong⟩
  · cases hphase : s.phase with
    | finalized => exact .inl ⟨_, execUpdate_of_finalized hlen hphase⟩
    | opened => exact .inr ⟨hlen, rfl, execUpdate_of_opened hlen hphase⟩

theorem execFinalize_of_opened {s : State} (h : s.phase = .opened) :
    execFinalize s = .next (s.reduceFold.drainTail.closeDigest.respond (okay 0)) := by simp [execFinalize, h]

theorem execFinalize_of_finalized {s : State} (h : s.phase = .finalized) :
    execFinalize s = .next (s.respond (okay 0)) := by simp [execFinalize, h]

/-! ### What a pending event does -/

theorem step_of_access {s : State} {a : Access} {rest : List HostEvent} (h : s.pending = .access a :: rest) :
    step s = performAccess a { s with pending := rest } := by simp [step, stepCore, handleEvent, h]

theorem step_of_reset {s : State} {q : Option Access} {rest : List HostEvent} (h : s.pending = .reset q :: rest) :
    step s = .next (resetEvent { s with pending := rest }) := by simp [step, stepCore, handleEvent, h]

theorem step_of_refused {s : State} {a : Access} {rest : List HostEvent} {e : ErrCode}
    (h : s.pending = .access a :: rest) (hdec : decodeAccess a = .error e) :
    step s = .next ({ s with pending := rest }.raiseBusError e) := by
  rw [step_of_access h, performAccess_error a _ e hdec]

theorem step_of_decoded {s : State} {a : Access} {rest : List HostEvent} {i : Instr}
    (h : s.pending = .access a :: rest) (hdec : decodeAccess a = .ok i) :
    step s = exec i { s with pending := rest } := by
  rw [step_of_access h, performAccess_ok a _ i hdec]

/-- A register without a write form refuses every write (R55, R56). -/
theorem refusesWrites_of_readOnly {off : Offset} (r : RegName) (halign : off.toNat % 8 = 0)
    (hreg : decodeOffset off = some r) (hform : ∀ v, writeForm r v = none) : RefusesWrites off := by
  intro s rest v hp
  have hdec : decodeAccess (busWrite off v) = .error .busDir := by
    simp [decodeAccess, busWrite, halign, hreg, hform]
  rw [step_of_refused hp hdec]
  simp [State.raiseBusError, State.recordError, State.respond, State.refusedOnBus, busErrorResponse,
    ErrCode.setsErrCmd, ErrCode.setsErrState, ErrCode.setsErrBus, ErrCode.code]

/-! ### The decoder yields legal instructions -/

/-- The byte count of a legal UPDATE word is at most 16 (R87). -/
theorem decodeCommandWord_update {w : Word} {n : BitVec 5} (h : decodeCommandWord w = .ok (.update n)) :
    n.toNat ≤ 16 := by
  unfold decodeCommandWord at h
  split at h
  · cases h
  · rename_i c hc
    split at h
    · cases h
    · split at h
      · cases h
      · rename_i hlen
        obtain rfl : c = .update n := by simpa using h
        unfold commandOfOp at hc
        split at hc <;> cases hc
        rename_i hop
        have hop : opField w = 2 := BitVec.eq_of_toNat_eq hop
        simpa [hop] using hlen

/-- An accepted access is the read form or the write form of the register at its offset (R56). -/
theorem decodeAccess_ok {a : Access} {i : Instr} (h : decodeAccess a = .ok i) :
    ∃ r, decodeOffset a.off = some r ∧ (readForm r = some i ∨ writeForm r a.wdata = some i) := by
  unfold decodeAccess at h
  split at h
  · cases h
  · split at h
    · cases h
    · rename_i r hr
      refine ⟨r, hr, ?_⟩
      cases hdir : a.dir <;> rw [hdir] at h
      · cases hform : readForm r <;> simp_all
      · cases hform : writeForm r a.wdata <;> simp_all

theorem isRead_of_readForm {r : RegName} {i : Instr} (h : readForm r = some i) : i.isRead = true := by
  cases r <;> cases h <;> rfl

theorem writeForm_cases {r : RegName} {v : Word} {i : Instr} (h : writeForm r v = some i) :
    i = .wrCmd v ∨ i = .wrData0 v ∨ i = .wrData1 v := by
  cases r <;> simp_all [writeForm]

/-- What the bus accepts is no command row: commands arrive through WR.CMD (R89). -/
theorem decodeAccess_ok_ne_update {a : Access} {i : Instr} (h : decodeAccess a = .ok i) (n : BitVec 5) :
    i ≠ .update n := by
  rintro rfl
  obtain ⟨r, -, hread | hwrite⟩ := decodeAccess_ok h
  · simpa [Instr.isRead] using isRead_of_readForm hread
  · simpa using writeForm_cases hwrite

theorem command_of_refused {a : Access} {e : ErrCode} (h : decodeAccess a = .error e) : a.command = none := by
  simp [Access.command, h]

theorem command_of_decoded {a : Access} {i : Instr} (h : decodeAccess a = .ok i) : a.command = i.runs := by
  simp [Access.command, h]

/-- An UPDATE that the bus accepts takes at most 16 bytes. -/
theorem command_update_le {a : Access} {n : BitVec 5} (h : a.command = some (.update n)) : n.toNat ≤ 16 := by
  cases hdec : decodeAccess a with
  | error e => rw [command_of_refused hdec] at h; cases h
  | ok i =>
    rw [command_of_decoded hdec] at h
    have hrow := decodeAccess_ok_ne_update hdec
    cases i with
    | update m => exact absurd rfl (hrow m)
    | wrCmd w =>
      cases hw : decodeCommandWord w with
      | error e => simp [Instr.runs, hw] at h
      | ok c =>
        obtain rfl : c = .update n := by simpa [Instr.runs, hw] using h
        exact decodeCommandWord_update hw
    | _ => cases h

/-! ### Every event that keeps the stream appends what it feeds (R34) -/

theorem fedBytes_of_update {a : Access} {n : BitVec 5} (h : a.command = some (.update n)) (d0 d1 : Word) :
    fedBytes d0 d1 a = laneBytes d0 d1 n.toNat := by simp [fedBytes, h]

theorem fedBytes_of_ne_update {a : Access} (h : ∀ n, a.command ≠ some (.update n)) (d0 d1 : Word) :
    fedBytes d0 d1 a = [] := by
  unfold fedBytes
  split
  · exact absurd ‹_› (h _)
  all_goals rfl

/-- An access that carries no command leaves the digest alone. -/
theorem State.Represents.exec_of_runs_none {s t : State} {S : List Byte} {i : Instr} (h : s.Represents S)
    (hi : i.runs = none) (hexec : exec i s = .next t) : t.Represents S := by
  rcases exec_kinds i with ⟨c, hc, -⟩ | ⟨-, -, hread⟩ | ⟨-, w, e, -, -, herr⟩ | ⟨-, v, rfl⟩ | ⟨-, v, rfl⟩
  · rw [hi] at hc; cases hc
  · rw [hread] at hexec; cases hexec; exact h
  · rw [herr] at hexec; cases hexec; exact h
  · cases hexec; exact h
  · cases hexec; exact h

/-- An UPDATE of a legal length appends its staged bytes. -/
theorem State.Represents.execUpdate {s t : State} {S : List Byte} {n : BitVec 5} (h : s.Represents S)
    (hn : n.toNat ≤ 16) (hexec : execUpdate n s = .next t) :
    t.Represents (S ++ laneBytes s.data0 s.data1 n.toNat) := by
  rw [execUpdate_of_opened hn h.1] at hexec
  cases hexec
  exact h.pushAll _

/-- An access that neither restarts nor ends the stream appends the bytes it feeds. -/
theorem State.Represents.performAccess {s t : State} {S : List Byte} {a : Access} (h : s.Represents S)
    (hkeeps : keepsStream (.access a) = true) (hperform : performAccess a s = .next t) :
    t.Represents (S ++ fedBytes s.data0 s.data1 a) := by
  cases hdec : decodeAccess a with
  | error e =>
    rw [performAccess_error a s e hdec] at hperform
    rw [fedBytes_of_ne_update (by simp [command_of_refused hdec]), List.append_nil]
    cases hperform
    exact h
  | ok i =>
    have hcmd := command_of_decoded hdec
    rw [performAccess_ok a s i hdec] at hperform
    rcases exec_kinds i with ⟨c, hc, hrun⟩ | ⟨hnone, -⟩ | ⟨hnone, -⟩ | ⟨hnone, -⟩ | ⟨hnone, -⟩
    · rw [hrun] at hperform
      rw [hc] at hcmd
      cases c with
      | init | finalize => simp [keepsStream, hcmd] at hkeeps
      | nop | clrerr =>
        rw [fedBytes_of_ne_update (by simp [hcmd]), List.append_nil]
        cases hperform
        exact h
      | update n =>
        rw [fedBytes_of_update hcmd]
        exact h.execUpdate (command_update_le hcmd) hperform
    all_goals
      rw [fedBytes_of_ne_update (by simp [hcmd, hnone]), List.append_nil]
      exact h.exec_of_runs_none hnone hperform

/-- The step lemma of R34. -/
theorem State.Represents.step {s t : State} {S : List Byte} {e : HostEvent} {rest : List HostEvent}
    (h : s.Represents S) (hpending : s.pending = e :: rest) (hkeeps : keepsStream e = true)
    (hstep : step s = .next t) : t.Represents (S ++ streamOf s.data0 s.data1 [e]) := by
  cases e with
  | reset q => simp [keepsStream] at hkeeps
  | access a =>
    rw [step_of_access hpending] at hstep
    have hdigest : { s with pending := rest }.Represents S := h
    simpa [streamOf] using hdigest.performAccess hkeeps hstep

/-- Settles O56: the step lemma over every event that keeps the stream, and the register laws of the folding engine
and the tail processor. -/
theorem digestStandsForItsStream : Obligations.DigestStandsForItsStream := by
  refine ⟨fun evs => ?_, fun s t h => ?_, fun s t S e rest h hp hk hs => h.step hp hk hs, fun s S h => ⟨?_, h.crcReg_eq⟩⟩
  · exact ⟨rfl, rfl, rfl, rfl, fun _ => ⟨rfl, rfl⟩, nofun⟩
  · cases h
    exact s.startDigest_represents
  · obtain ⟨-, -, -, htail, -⟩ := h
    rw [htail, blockPrefix_append_tailOf]

end Sys2Proof.Machine

namespace Sys2Proof.Machine

/-! ### STATUS (R25) -/

theorem flagWord_getLsbD (b : Bool) (i : Nat) : (flagWord b).getLsbD i = (decide (i = 0) && b) := by
  cases b <;> cases i <;> simp [flagWord]

/-- STATUS, bit by bit. -/
theorem State.status_getLsbD (s : State) {i : Nat} (hi : i < 64) : s.status.getLsbD i =
    ((decide (i = 0) && s.phase.bit) || (decide (i = 2) && s.fv) ||
      (!decide (i < 8) && s.tailLen.testBit (i - 8)) || (decide (i = 16) && s.errCmd) ||
      (decide (i = 17) && s.errState) || (decide (i = 18) && s.errBus) ||
      (!decide (i < 24) && s.lastErr.getLsbD (i - 24))) := by
  have hshift (b : Bool) (k : Nat) : (flagWord b <<< k).getLsbD i = (decide (i = k) && b) := by
    rw [BitVec.getLsbD_shiftLeft, flagWord_getLsbD]
    rcases Nat.lt_trichotomy i k with h | rfl | h
    · simp [h, h.ne]
    · simp [hi]
    · simp [h.ne', show i - k ≠ 0 by omega]
  simp only [State.status, BitVec.getLsbD_or, hshift, flagWord_getLsbD, BitVec.getLsbD_shiftLeft,
    BitVec.getLsbD_ofNat, BitVec.getLsbD_setWidth, hi, show i - 8 < 64 by omega, show i - 24 < 64 by omega,
    decide_true, Bool.true_and]

/-- A field of STATUS is what its bits are. -/
theorem State.status_field {s : State} {lo len : Nat} {v : BitVec len}
    (h : ∀ i < len, s.status.getLsbD (lo + i) = v.getLsbD i) : s.status.extractLsb' lo len = v :=
  BitVec.eq_of_getLsbD_eq fun i hi => by rw [BitVec.getLsbD_extractLsb', h i hi]; simp [hi]

/-- TAIL_LEN needs no more than its four bits (R25, R26). -/
theorem State.tailLen_testBit_high {s : State} (hs : s.tailLen ≤ 15) {i : Nat} (hi : 4 ≤ i) :
    s.tailLen.testBit i = false :=
  Nat.testBit_lt_two_pow (Nat.lt_of_lt_of_le (Nat.lt_succ_of_le hs) (Nat.pow_le_pow_right (n := 2) (by decide) hi))

theorem State.status_state (s : State) :
    s.status.extractLsb' 0 2 = if s.phase = .finalized then 1 else 0 := by
  apply State.status_field
  intro i hi
  rw [State.status_getLsbD s (by omega)]
  interval_cases i <;> cases s.phase <;> simp [Phase.bit]

/-- The bits of STATUS that belong to no field. -/
theorem State.status_reservedBit {s : State} (hs : s.tailLen ≤ 15) {i : Nat}
    (h : 3 ≤ i ∧ i < 8 ∨ 12 ≤ i ∧ i < 16 ∨ 19 ≤ i ∧ i < 24 ∨ 32 ≤ i ∧ i < 64) : s.status.getLsbD i = false := by
  have htail : (!decide (i < 8) && s.tailLen.testBit (i - 8)) = false := by
    rcases Nat.lt_or_ge i 8 with h8 | h8
    · simp [h8]
    · rw [State.tailLen_testBit_high hs (by omega), Bool.and_false]
  have hcode : (!decide (i < 24) && s.lastErr.getLsbD (i - 24)) = false := by
    rcases Nat.lt_or_ge i 24 with h24 | h24
    · simp [h24]
    · rw [BitVec.getLsbD_of_ge _ _ (by omega), Bool.and_false]
  rw [State.status_getLsbD s (by omega), htail, hcode]
  simp [show i ≠ 0 by omega, show i ≠ 2 by omega, show i ≠ 16 by omega, show i ≠ 17 by omega, show i ≠ 18 by omega]

/-- The ranges of STATUS that belong to no field read 0. -/
theorem State.status_reserved {s : State} (hs : s.tailLen ≤ 15) {lo len : Nat}
    (h : 3 ≤ lo ∧ lo + len ≤ 8 ∨ 12 ≤ lo ∧ lo + len ≤ 16 ∨ 19 ≤ lo ∧ lo + len ≤ 24 ∨ 32 ≤ lo ∧ lo + len ≤ 64) :
    s.status.extractLsb' lo len = 0 :=
  State.status_field fun i hi => by rw [State.status_reservedBit hs (by omega)]; simp

theorem State.status_tailLen {s : State} (hs : s.tailLen ≤ 15) :
    (s.status.extractLsb' 8 4).toNat = s.tail.length := by
  have hfield : s.status.extractLsb' 8 4 = BitVec.ofNat 4 s.tailLen := by
    apply State.status_field
    intro i hi
    rw [State.status_getLsbD s (by omega), BitVec.getLsbD_ofNat]
    simp [hi, show 8 + i < 24 by omega, show 8 + i ≠ 2 by omega, show 8 + i ≠ 16 by omega, show 8 + i ≠ 17 by omega,
      show 8 + i ≠ 18 by omega]
  rw [hfield, BitVec.toNat_ofNat, Nat.mod_eq_of_lt (Nat.lt_succ_of_le hs), State.tailLen]

theorem State.status_lastErr {s : State} (hs : s.tailLen ≤ 15) : s.status.extractLsb' 24 8 = s.lastErr := by
  apply State.status_field
  intro i hi
  rw [State.status_getLsbD s (by omega), State.tailLen_testBit_high hs (by omega)]
  simp [show 24 + i ≠ 2 by omega, show 24 + i ≠ 16 by omega, show 24 + i ≠ 17 by omega, show 24 + i ≠ 18 by omega]

/-- Settles O23: each field from the bits of STATUS. -/
theorem statusFields : Obligations.StatusFields := by
  refine ⟨fun s hs => ?_, fun s ⟨htail, _, _, _, _, _, hcode⟩ => ?_,
    refusesWrites_of_readOnly .status (by decide) (by decide) fun _ => rfl, by decide⟩
  · have high {i : Nat} (hi : 4 ≤ i) := State.tailLen_testBit_high hs hi
    refine ⟨s.status_state, ?_, State.status_reserved hs (by omega), State.status_tailLen hs,
      State.status_reserved hs (by omega), ?_, ?_, ?_, State.status_reserved hs (by omega), State.status_lastErr hs,
      State.status_reserved hs (by omega)⟩
    all_goals rw [State.status_getLsbD s (by decide)]; simp [high]
  · rw [State.status_lastErr htail]
    exact hcode

/-! ### TAIL0, TAIL1, RESULT and ID (R30, R31, R32) -/

theorem State.tail0_lane (s : State) {k : Nat} (hk : k < 8) :
    s.tail0.extractLsb' (8 * k) 8 = s.tail.getD k 0 := by
  rw [State.tail0, packLanes_lane _ k (by omega), List.getD_eq_getElem?_getD, List.getElem?_take_of_lt hk,
    List.getD_eq_getElem?_getD]

theorem State.tail1_lane (s : State) {k : Nat} (hk : k < 8) :
    s.tail1.extractLsb' (8 * k) 8 = s.tail.getD (8 + k) 0 := by
  rw [State.tail1, packLanes_lane _ k (by omega), List.getD_eq_getElem?_getD, List.getElem?_take_of_lt hk,
    List.getElem?_drop, List.getD_eq_getElem?_getD]

/-- Settles O24: the lane lemma of packed bytes. -/
theorem tailViews : Obligations.TailViews := by
  refine ⟨fun s k hs hk => ⟨s.tail0_lane hk, s.tail1_lane hk, ?_⟩,
    refusesWrites_of_readOnly .tail0 (by decide) (by decide) fun _ => rfl,
    refusesWrites_of_readOnly .tail1 (by decide) (by decide) fun _ => rfl, by decide, by decide⟩
  rw [s.tail1_lane (k := 7) (by decide), List.getD_eq_default _ _ hs]

/-- Settles O25: RESULT by the two values of STATE. -/
theorem resultView : Obligations.ResultView := by
  refine ⟨fun s => ⟨fun h => ?_, fun h => ?_⟩, rfl, fun s t h => ?_, fun s => ?_,
    refusesWrites_of_readOnly .result (by decide) (by decide) fun _ => rfl⟩
  · simp [State.result, h]
  · simp [State.result, h]
  · cases h
    rfl
  · rw [State.status_getLsbD s (by decide)]
    cases s.phase <;> simp [Phase.bit]

/-- Settles O26: a read of ID answers the constant in every state. -/
theorem idIsConstant : Obligations.IdIsConstant :=
  ⟨fun _ => rfl, by decide, refusesWrites_of_readOnly .id (by decide) (by decide) fun _ => rfl⟩

/-! ### STATE (R22) -/

/-- STATE after a command. -/
def phaseAfter (p : Phase) : Command → Phase
  | .init => .opened
  | .finalize => .finalized
  | .nop | .update _ | .clrerr => p

theorem execCommand_phase {c : Command} {s t : State} (h : execCommand c s = .next t) :
    t.phase = phaseAfter s.phase c := by
  cases c with
  | nop | init | clrerr => cases h; rfl
  | update n =>
    rcases execUpdate_cases n s with ⟨e, he⟩ | ⟨-, -, hrun⟩
    · cases he.symm.trans h; rfl
    · cases hrun.symm.trans h; simp [phaseAfter]
  | finalize =>
    cases hphase : s.phase with
    | opened => cases (execFinalize_of_opened hphase).symm.trans h; rfl
    | finalized => cases (execFinalize_of_finalized hphase).symm.trans h; exact hphase

theorem exec_phase_of_runs_none {i : Instr} {s t : State} (hi : i.runs = none) (h : exec i s = .next t) :
    t.phase = s.phase := by
  rcases exec_kinds i with ⟨c, hc, -⟩ | ⟨-, -, hread⟩ | ⟨-, w, e, -, -, herr⟩ | ⟨-, v, rfl⟩ | ⟨-, v, rfl⟩
  · rw [hi] at hc; cases hc
  · cases (hread s).symm.trans h; rfl
  · cases (herr s).symm.trans h; rfl
  · cases h; rfl
  · cases h; rfl

theorem exec_phase_of_runs {i : Instr} {c : Command} {s t : State} (hi : i.runs = some c) (h : exec i s = .next t) :
    t.phase = phaseAfter s.phase c := by
  rcases exec_kinds i with ⟨c', hc, hrun⟩ | ⟨hnone, -⟩ | ⟨hnone, -⟩ | ⟨hnone, -⟩ | ⟨hnone, -⟩
  · obtain rfl : c' = c := Option.some_injective _ (hc.symm.trans hi)
    exact execCommand_phase ((hrun s).symm.trans h)
  all_goals rw [hi] at hnone; cases hnone

/-- Settles O34: STATE after an instruction is a function of the command it runs. -/
theorem stateRegisterWriters : Obligations.StateRegisterWriters := by
  refine ⟨fun i s t h => ⟨fun hi => exec_phase_of_runs hi h, fun hi => exec_phase_of_runs hi h, fun hinit hfin => ?_⟩,
    fun s a rest e t hp he h => ?_, fun s t q rest hp h => ?_, rfl, fun s => ?_⟩
  · cases hi : i.runs with
    | none => exact exec_phase_of_runs_none hi h
    | some c =>
      rw [exec_phase_of_runs hi h]
      cases c with
      | init => exact absurd hi hinit
      | finalize => exact absurd hi hfin
      | _ => rfl
  · cases (step_of_refused hp he).symm.trans h
    rfl
  · cases (step_of_reset hp).symm.trans h
    rfl
  · rw [s.status_state]
    cases s.phase <;> rfl

/-! ### COUNT (R27) -/

theorem State.pushAll_count (s : State) (bs : List Byte) :
    (s.pushAll bs).count = s.count + BitVec.ofNat 64 bs.length := by
  induction bs generalizing s with
  | nil => simp
  | cons b bs ih =>
    rw [State.pushAll_cons, ih, State.push_count, List.length_cons, Nat.add_comm, BitVec.ofNat_add, BitVec.add_assoc]
    rfl

@[simp] theorem State.stagedBytes_length (s : State) (n : Nat) : (s.stagedBytes n).length = n := by
  simp [State.stagedBytes, laneBytes]

/-- `s` with another COUNT. -/
def State.setCount (s : State) (c : Word) : State := { s with count := c }

theorem State.takeBlock_setCount (s : State) (c : Word) (v : Block) :
    (s.setCount c).takeBlock v = (s.takeBlock v).setCount c := by
  cases h : s.fv <;> simp [State.takeBlock, State.setCount, h]

theorem State.reduceFold_setCount (s : State) (c : Word) : (s.setCount c).reduceFold = s.reduceFold.setCount c := by
  cases h : s.fv <;> simp [State.reduceFold, State.setCount, h]

theorem State.push_setCount (s : State) (c : Word) (b : Byte) :
    (s.setCount c).push b = (s.push b).setCount (c + 1) := by
  by_cases h : s.tailLen = 15
  · rw [State.push_of_full s b h, State.push_of_full (s.setCount c) b h, ← State.takeBlock_setCount]; rfl
  · rw [State.push_of_short s b h, State.push_of_short (s.setCount c) b h]; rfl

theorem State.pushAll_setCount (s : State) (c : Word) (bs : List Byte) :
    ∃ c', (s.setCount c).pushAll bs = (s.pushAll bs).setCount c' := by
  induction bs generalizing s c with
  | nil => exact ⟨c, rfl⟩
  | cons b bs ih => rw [State.pushAll_cons, State.push_setCount]; exact ih _ _

/-- A command does the same whatever COUNT holds. -/
theorem execCommand_setCount (cmd : Command) (s : State) (c : Word) :
    ∃ t c', execCommand cmd s = .next t ∧ execCommand cmd (s.setCount c) = .next (t.setCount c') := by
  cases cmd with
  | nop | clrerr => exact ⟨_, c, rfl, rfl⟩
  | init => exact ⟨_, 0, rfl, rfl⟩
  | update n =>
    rcases Nat.lt_or_ge 16 n.toNat with hlong | hlen
    · exact ⟨_, c, execUpdate_of_long s hlong, execUpdate_of_long _ hlong⟩
    · cases hphase : s.phase with
      | finalized =>
        exact ⟨_, c, execUpdate_of_finalized hlen hphase, execUpdate_of_finalized (s := s.setCount c) hlen hphase⟩
      | opened =>
        obtain ⟨c', hpush⟩ := s.pushAll_setCount c (s.stagedBytes n.toNat)
        refine ⟨_, c', execUpdate_of_opened hlen hphase, (execUpdate_of_opened (s := s.setCount c) hlen hphase).trans ?_⟩
        exact congrArg (fun t => Host.Outcome.next (t.respond (okay 0))) hpush
  | finalize =>
    cases hphase : s.phase with
    | finalized =>
      exact ⟨_, c, execFinalize_of_finalized hphase, execFinalize_of_finalized (s := s.setCount c) hphase⟩
    | opened =>
      refine ⟨_, c, execFinalize_of_opened hphase, (execFinalize_of_opened (s := s.setCount c) hphase).trans ?_⟩
      rw [s.reduceFold_setCount c]
      rfl

/-- No read but RD.COUNT answers COUNT. -/
theorem readWord_setCount {i : Instr} (hi : i ≠ .rdCount) (s : State) (c : Word) :
    readWord (s.setCount c) i = readWord s i := by
  cases i with
  | rdCount => exact absurd rfl hi
  | _ => rfl

/-- Every instruction but RD.COUNT does the same whatever COUNT holds. -/
theorem exec_setCount {i : Instr} (hi : i ≠ .rdCount) (s : State) (c : Word) :
    ∃ t c', exec i s = .next t ∧ exec i (s.setCount c) = .next (t.setCount c') := by
  rcases exec_kinds i with ⟨cmd, -, hrun⟩ | ⟨-, -, hread⟩ | ⟨-, w, e, -, -, herr⟩ | ⟨-, v, rfl⟩ | ⟨-, v, rfl⟩
  · rw [hrun, hrun]; exact execCommand_setCount cmd s c
  · exact ⟨_, c, hread s, (hread _).trans (by rw [readWord_setCount hi]; rfl)⟩
  · exact ⟨_, c, herr s, herr _⟩
  · exact ⟨_, c, rfl, rfl⟩
  · exact ⟨_, c, rfl, rfl⟩

/-- Settles O35: COUNT under each of its writers, and `exec_setCount`. -/
theorem countCountsBytes : Obligations.CountCountsBytes := by
  refine ⟨fun n s t hn hphase h => ?_, fun s t h => ?_, fun s t q rest hp h => ?_, fun s t h => ?_,
    fun i s t t' c hi h h' => ?_, fun s => rfl, rfl⟩
  · cases (execUpdate_of_opened hn hphase).symm.trans h
    rw [State.respond_count, State.pushAll_count, State.stagedBytes_length]
  · cases h; rfl
  · cases (step_of_reset hp).symm.trans h; rfl
  · cases hphase : s.phase with
    | opened => cases (execFinalize_of_opened hphase).symm.trans h; simp
    | finalized => cases (execFinalize_of_finalized hphase).symm.trans h; rfl
  · obtain ⟨u, c', hu, hu'⟩ := exec_setCount hi s c
    cases hu.symm.trans h
    cases hu'.symm.trans h'
    rfl

/-! ### DATA0 and DATA1 (R28) -/

theorem execCommand_staging {c : Command} {s t : State} (h : execCommand c s = .next t) :
    t.data0 = s.data0 ∧ t.data1 = s.data1 := by
  cases c with
  | nop | init | clrerr => cases h; exact ⟨rfl, rfl⟩
  | update n =>
    rcases execUpdate_cases n s with ⟨e, he⟩ | ⟨-, -, hrun⟩
    · cases he.symm.trans h; exact ⟨rfl, rfl⟩
    · cases hrun.symm.trans h; simp
  | finalize =>
    cases hphase : s.phase with
    | opened => cases (execFinalize_of_opened hphase).symm.trans h; simp
    | finalized => cases (execFinalize_of_finalized hphase).symm.trans h; exact ⟨rfl, rfl⟩

/-- Only its own write changes a staging register. -/
theorem exec_staging {i : Instr} {s t : State} (h : exec i s = .next t) :
    ((∀ v, i ≠ .wrData0 v) → t.data0 = s.data0) ∧ ((∀ v, i ≠ .wrData1 v) → t.data1 = s.data1) := by
  rcases exec_kinds i with ⟨c, -, hrun⟩ | ⟨-, -, hread⟩ | ⟨-, w, e, -, -, herr⟩ | ⟨-, v, rfl⟩ | ⟨-, v, rfl⟩
  · obtain ⟨h0, h1⟩ := execCommand_staging ((hrun s).symm.trans h)
    exact ⟨fun _ => h0, fun _ => h1⟩
  · cases (hread s).symm.trans h; exact ⟨fun _ => rfl, fun _ => rfl⟩
  · cases (herr s).symm.trans h; exact ⟨fun _ => rfl, fun _ => rfl⟩
  · cases h; exact ⟨fun hne => absurd rfl (hne v), fun _ => rfl⟩
  · cases h; exact ⟨fun _ => rfl, fun hne => absurd rfl (hne v)⟩

/-- `s` with other staged values. -/
def State.setStaging (s : State) (d0 d1 : Word) : State := { s with data0 := d0, data1 := d1 }

theorem State.reduceFold_setStaging (s : State) (d0 d1 : Word) :
    (s.setStaging d0 d1).reduceFold = s.reduceFold.setStaging d0 d1 := by
  cases h : s.fv <;> simp [State.reduceFold, State.setStaging, h]

/-- Every command but UPDATE does the same whatever is staged. -/
theorem execCommand_setStaging {c : Command} (hc : ∀ n, c ≠ .update n) (s : State) (d0 d1 : Word) :
    ∃ t, execCommand c s = .next t ∧ execCommand c (s.setStaging d0 d1) = .next (t.setStaging d0 d1) := by
  cases c with
  | nop | init | clrerr => exact ⟨_, rfl, rfl⟩
  | update n => exact absurd rfl (hc n)
  | finalize =>
    cases hphase : s.phase with
    | finalized =>
      exact ⟨_, execFinalize_of_finalized hphase, execFinalize_of_finalized (s := s.setStaging d0 d1) hphase⟩
    | opened =>
      refine ⟨_, execFinalize_of_opened hphase, (execFinalize_of_opened (s := s.setStaging d0 d1) hphase).trans ?_⟩
      rw [s.reduceFold_setStaging d0 d1]
      rfl

/-- Only the two reads of the staging registers answer them. -/
theorem readWord_setStaging {i : Instr} (h0 : i ≠ .rdData0) (h1 : i ≠ .rdData1) (s : State) (d0 d1 : Word) :
    readWord (s.setStaging d0 d1) i = readWord s i := by
  cases i with
  | rdData0 => exact absurd rfl h0
  | rdData1 => exact absurd rfl h1
  | _ => rfl

/-- Every instruction but UPDATE and the two reads does the same whatever is staged. -/
theorem exec_setStaging {i : Instr} (hi : i.isUpdate = false) (h0 : i ≠ .rdData0) (h1 : i ≠ .rdData1) (s : State)
    (d0 d1 : Word) : ∃ t d0' d1', exec i s = .next t ∧ exec i (s.setStaging d0 d1) = .next (t.setStaging d0' d1') := by
  rcases exec_kinds i with ⟨c, hc, hrun⟩ | ⟨-, -, hread⟩ | ⟨-, w, e, -, -, herr⟩ | ⟨-, v, rfl⟩ | ⟨-, v, rfl⟩
  · have hne : ∀ n, c ≠ .update n := by
      rintro n rfl
      simp [Instr.isUpdate, hc] at hi
    obtain ⟨t, ht, ht'⟩ := execCommand_setStaging hne s d0 d1
    exact ⟨t, d0, d1, (hrun s).trans ht, (hrun _).trans ht'⟩
  · exact ⟨_, d0, d1, hread s, (hread _).trans (by rw [readWord_setStaging h0 h1]; rfl)⟩
  · exact ⟨_, d0, d1, herr s, herr _⟩
  · exact ⟨_, v, d1, rfl, rfl⟩
  · exact ⟨_, d0, v, rfl, rfl⟩

/-- Settles O36: `exec_staging` for the writers and `exec_setStaging` for the readers. -/
theorem stagingRegisters : Obligations.StagingRegisters := by
  refine ⟨fun v s t h => ?_, fun v s t h => ?_, fun i s t h => exec_staging h,
    fun i s t t' d0 d1 hi h0 h1 h h' => ?_, fun s n => rfl, rfl, rfl⟩
  · cases h; rfl
  · cases h; rfl
  · obtain ⟨u, d0', d1', hu, hu'⟩ := exec_setStaging hi h0 h1 s d0 d1
    cases hu.symm.trans h
    cases hu'.symm.trans h'
    rfl

/-! ### R33 as the rule writes it (log 3) -/

/-- The host feeds "123456789" and finalizes (V-CMD-F9). -/
def feedNineAndFinalize : List HostEvent :=
  hostEvents [.write .data0 0x3837363534333231, .write .data1 0x39, updateLine 9, finalLine]

/-- What the core then holds: the check value, no pending byte, and COUNT = 9. -/
def finalizedNine : State :=
  { State.reset with
    phase := .finalized
    acc := 0xae8b14860a799888
    count := 9
    data0 := 0x3837363534333231
    data1 := 0x39
    responses := [⟨.okay, 0⟩, ⟨.okay, 0⟩, ⟨.okay, 0⟩, ⟨.okay, 0⟩] }

theorem run_feedNineAndFinalize :
    Host.Core.run core 4 (State.resetWith feedNineAndFinalize) = .next finalizedNine := by
  have hacc : tailSteps 0xFFFFFFFFFFFFFFFF [0x31, 0x32, 0x33, 0x34, 0x35, 0x36, 0x37, 0x38, 0x39] ^^^ romConst 3 =
      0xae8b14860a799888 := by decide +kernel
  rw [finalizedNine, ← hacc]
  rfl

/-- Refutes O40: FINALIZE empties TAIL and keeps COUNT, so in `finalizedNine` clause (v) says 0 = 9. -/
theorem not_rule33AsWrittenHoldsOnEveryRun : ¬ Obligations.Rule33AsWrittenHoldsOnEveryRun := by
  intro h
  obtain ⟨-, -, -, -, hv, -⟩ := h finalizedNine ⟨feedNineAndFinalize, 4, run_feedNineAndFinalize⟩
  exact absurd hv (by decide)

end Sys2Proof.Machine

namespace Sys2Proof.Machine

/-! ### What the bus answers (R56, R214) -/

/-- A bus error is a refusal with its code and ERROR (R213). -/
theorem State.raiseBusError_eq_refusedOnBus {e : ErrCode} (he : e = .busAlign ∨ e = .busUnmapped ∨ e = .busDir)
    (s : State) : s.raiseBusError e = s.refusedOnBus e.code := by
  rcases he with rfl | rfl | rfl <;>
    simp [State.raiseBusError, State.recordError, State.respond, State.refusedOnBus, busErrorResponse,
      ErrCode.setsErrCmd, ErrCode.setsErrState, ErrCode.setsErrBus]

theorem step_of_refused_eq_refusedOnBus {s : State} {a : Access} {rest : List HostEvent} {e : ErrCode}
    (h : s.pending = .access a :: rest) (hdec : decodeAccess a = .error e) :
    step s = .next ({ s with pending := rest }.refusedOnBus e.code) := by
  rw [step_of_refused h hdec, State.raiseBusError_eq_refusedOnBus (decodeAccess_error a e hdec)]

/-- A command takes no event from the host and answers OKAY once (R214). -/
theorem execCommand_answers (c : Command) (s : State) :
    ∃ u : State, execCommand c s = .next (u.respond (okay 0)) ∧ u.pending = s.pending ∧ u.responses = s.responses := by
  cases c with
  | nop | init | clrerr => exact ⟨_, rfl, rfl, rfl⟩
  | update n =>
    rcases execUpdate_cases n s with ⟨e, he⟩ | ⟨-, -, hrun⟩
    · exact ⟨_, he, rfl, rfl⟩
    · exact ⟨_, hrun, by simp, by simp⟩
  | finalize =>
    cases hphase : s.phase with
    | opened => exact ⟨_, execFinalize_of_opened hphase, by simp, by simp⟩
    | finalized => exact ⟨_, execFinalize_of_finalized hphase, rfl, rfl⟩

/-- So does every instruction: only the bus itself answers ERROR. -/
theorem exec_answers (i : Instr) (s : State) :
    ∃ (u : State) (v : Word), exec i s = .next (u.respond (okay v)) ∧ u.pending = s.pending ∧ u.responses = s.responses := by
  rcases exec_kinds i with ⟨c, -, hrun⟩ | ⟨-, -, hread⟩ | ⟨-, w, e, -, -, herr⟩ | ⟨-, v, rfl⟩ | ⟨-, v, rfl⟩
  · obtain ⟨u, hu, hpending, hresponses⟩ := execCommand_answers c s
    exact ⟨u, 0, (hrun s).trans hu, hpending, hresponses⟩
  · exact ⟨s, _, hread s, rfl, rfl⟩
  · exact ⟨_, 0, herr s, rfl, rfl⟩
  · exact ⟨_, 0, rfl, rfl, rfl⟩
  · exact ⟨_, 0, rfl, rfl, rfl⟩

/-! ### Alignment (R57) -/

theorem decodeAccess_busAlign_iff (a : Access) :
    decodeAccess a = .error .busAlign ↔ a.size ≠ 8 ∨ a.off.toNat % 8 ≠ 0 := by
  unfold decodeAccess
  split
  · simp_all
  · split
    · simp_all
    · split <;> simp_all

theorem step_of_misaligned {s : State} {a : Access} {rest : List HostEvent} (h : s.pending = .access a :: rest)
    (hbad : a.size ≠ 8 ∨ a.off.toNat % 8 ≠ 0) : step s = .next ({ s with pending := rest }.refusedOnBus 5) :=
  step_of_refused_eq_refusedOnBus h ((decodeAccess_busAlign_iff a).mpr hbad)

/-- Settles O15: an aligned access answers OKAY, or is refused with another code. -/
theorem misalignedAccessIsRefused : Obligations.MisalignedAccessIsRefused := by
  refine fun s a rest h => ⟨step_of_misaligned h, fun hsize halign heq => ?_⟩
  cases hdec : decodeAccess a with
  | error e =>
    have hcode : e.code = 5 := by
      have hstep := (step_of_refused_eq_refusedOnBus h hdec).symm.trans heq
      exact congrArg State.lastErr (Host.Outcome.next.inj hstep)
    obtain rfl : e = .busAlign := by
      cases e with
      | busAlign => rfl
      | _ => exact absurd hcode (by decide)
    simpa [hsize, halign] using (decodeAccess_busAlign_iff a).mp hdec
  | ok i =>
    obtain ⟨u, v, hu, -, hresponses⟩ := exec_answers i { s with pending := rest }
    have hstep := (step_of_decoded h hdec).symm.trans heq
    have hlast := congrArg State.responses (Host.Outcome.next.inj (hu.symm.trans hstep))
    simp [hresponses, State.refusedOnBus, okay] at hlast

/-! ### The ROM windows (R65, R184) -/

theorem decodeOffset_const : ∀ i : BitVec 3, decodeOffset (0x400 + 8 * i.setWidth 12) = some (.const i) := by
  decide

theorem decodeOffset_table : ∀ i : BitVec 8, decodeOffset (0x800 + 8 * i.setWidth 12) = some (.table i) := by
  decide

theorem const_offset_aligned : ∀ i : BitVec 3, (0x400 + 8 * i.setWidth 12 : Offset).toNat % 8 = 0 := by
  decide

theorem table_offset_aligned : ∀ i : BitVec 8, (0x800 + 8 * i.setWidth 12 : Offset).toNat % 8 = 0 := by
  decide

/-- An aligned read is the read form of the register at its offset (R56, R89). -/
theorem decodeAccess_busRead {off : Offset} {r : RegName} {i : Instr} (halign : off.toNat % 8 = 0)
    (hreg : decodeOffset off = some r) (hform : readForm r = some i) : decodeAccess (busRead off) = .ok i := by
  simp [decodeAccess, busRead, halign, hreg, hform]

/-- Settles O21: the ROM offsets decode to the ROM registers, which have a read form and no write form. -/
theorem romReadsAnswerTheWord : Obligations.RomReadsAnswerTheWord := by
  refine ⟨fun i s => rfl, fun i s => rfl, fun i s rest h => ?_, fun i s rest h => ?_,
    fun i => refusesWrites_of_readOnly _ (const_offset_aligned i) (decodeOffset_const i) fun _ => rfl,
    fun i => refusesWrites_of_readOnly _ (table_offset_aligned i) (decodeOffset_table i) fun _ => rfl,
    fun s a rest h _ hbad => step_of_misaligned h hbad⟩
  · rw [step_of_decoded h (decodeAccess_busRead (const_offset_aligned i) (decodeOffset_const i) rfl)]
    rfl
  · rw [step_of_decoded h (decodeAccess_busRead (table_offset_aligned i) (decodeOffset_table i) rfl)]
    rfl

/-! ### Accesses one after another (R58) -/

/-- A step takes the access it decides off the list and gives it one answer. -/
theorem step_of_access_answers {s t : State} {a : Access} {rest : List HostEvent}
    (h : s.pending = .access a :: rest) (hstep : step s = .next t) :
    t.pending = rest ∧ ∃ r, t.responses = s.responses ++ [r] := by
  cases hdec : decodeAccess a with
  | error e =>
    cases (step_of_refused h hdec).symm.trans hstep
    exact ⟨rfl, _, rfl⟩
  | ok i =>
    obtain ⟨u, v, hu, hpending, hresponses⟩ := exec_answers i { s with pending := rest }
    cases hu.symm.trans ((step_of_decoded h hdec).symm.trans hstep)
    exact ⟨hpending, okay v, by rw [State.respond_responses, hresponses]⟩

theorem exec_of_isRead {i : Instr} (hi : i.isRead = true) (s : State) :
    exec i s = .next (s.answered (readWord s i)) := by
  cases i with
  | nop | init | update | finalize | clrerr | wrCmd | wrData0 | wrData1 => cases hi
  | _ => rfl

/-- No read sees the answers already given. -/
theorem readWord_answered (i : Instr) (s : State) (v : Word) : readWord (s.answered v) i = readWord s i := by
  cases i <;> rfl

theorem execFinalize_idempotent {s t : State} (h : exec .finalize s = .next t) :
    exec .finalize t = .next (t.answered 0) :=
  execFinalize_of_finalized (exec_phase_of_runs (c := .finalize) rfl h)

/-- Two UPDATEs push the staged bytes twice. -/
theorem execUpdate_twice {n : BitVec 5} {s t : State} (hn : n.toNat ≤ 16) (hphase : s.phase = .opened)
    (h : execUpdate n s = .next t) :
    execUpdate n t =
      .next (((s.pushAll (s.stagedBytes n.toNat ++ s.stagedBytes n.toNat)).respond (okay 0)).respond (okay 0)) := by
  cases (execUpdate_of_opened hn hphase).symm.trans h
  rw [execUpdate_of_opened hn (by simpa using hphase), State.pushAll_respond, State.pushAll_append]
  simp [State.stagedBytes]

/-- Settles O22: one answer a step, reads that see no answer, and commands run twice. -/
theorem repeatedAccesses : Obligations.RepeatedAccesses := by
  refine ⟨fun s t a rest h hstep => step_of_access_answers h hstep,
    fun i s hi => ⟨readWord s i, exec_of_isRead hi s, ?_⟩,
    fun v s t h => ?_, fun v s t h => ?_, fun s t h => ?_, fun s t h => execFinalize_idempotent h,
    fun n s t hn hphase h => execUpdate_twice hn hphase h⟩
  · rw [exec_of_isRead hi, readWord_answered]
  all_goals
    cases h
    rfl

/-! ### The lanes of the staging registers (R53) -/

theorem laneByte_of_lt {d0 d1 : Word} {j : Nat} (hj : j < 8) : laneByte d0 d1 j = d0.extractLsb' (8 * j) 8 :=
  BitVec.extractLsb'_append_eq_of_add_le (by omega)

theorem laneByte_of_ge {d0 d1 : Word} {j : Nat} (hj : 8 ≤ j) : laneByte d0 d1 j = d1.extractLsb' (8 * (j - 8)) 8 := by
  rw [laneByte, BitVec.extractLsb'_append_eq_of_le (by omega), Nat.mul_sub]

/-- Two blocks with the same 16 lanes are equal. -/
theorem block_eq_of_lanes {v w : Block} (h : ∀ k < 16, v.extractLsb' (8 * k) 8 = w.extractLsb' (8 * k) 8) : v = w := by
  apply BitVec.eq_of_getLsbD_eq
  intro i hi
  have hbit := congrArg (·.getLsbD (i % 8)) (h (i / 8) (by omega))
  simpa [show i % 8 < 8 by omega, Nat.div_add_mod] using hbit

/-- The packed bytes of a block are the block. -/
theorem packLanes_blockBytes (v : Block) : packLanes 128 (blockBytes v) = v := by
  apply block_eq_of_lanes
  intro k hk
  rw [packLanes_lane _ k (by omega)]
  simp [blockBytes, hk]

theorem State.takeBlock_setStaging (s : State) (d0 d1 : Word) (v : Block) :
    (s.setStaging d0 d1).takeBlock v = (s.takeBlock v).setStaging d0 d1 := by
  cases h : s.fv <;> simp [State.takeBlock, State.setStaging, h]

/-- PUSH does not see the staging registers. -/
theorem State.push_setStaging (s : State) (d0 d1 : Word) (b : Byte) :
    (s.setStaging d0 d1).push b = (s.push b).setStaging d0 d1 := by
  by_cases h : s.tailLen = 15
  · rw [State.push_of_full s b h, State.push_of_full (s.setStaging d0 d1) b h, ← State.takeBlock_setStaging]; rfl
  · rw [State.push_of_short s b h, State.push_of_short (s.setStaging d0 d1) b h]; rfl

theorem State.pushAll_setStaging (s : State) (d0 d1 : Word) (bs : List Byte) :
    (s.setStaging d0 d1).pushAll bs = (s.pushAll bs).setStaging d0 d1 := by
  induction bs generalizing s with
  | nil => rfl
  | cons b bs ih => rw [State.pushAll_cons, State.push_setStaging, ih, State.pushAll_cons]

theorem laneBytes_congr {d0 d1 e0 e1 : Word} {n : Nat} (h : ∀ j < n, laneByte d0 d1 j = laneByte e0 e1 j) :
    laneBytes d0 d1 n = laneBytes e0 e1 n :=
  List.map_congr_left fun j hj => h j (List.mem_range.mp hj)

/-- UPDATE sees the lanes below its byte count and no other staged bit. -/
theorem execUpdate_setStaging {n : BitVec 5} {s : State} {d0 d1 : Word}
    (hlanes : ∀ j < n.toNat, laneByte d0 d1 j = laneByte s.data0 s.data1 j) :
    ∃ t, execUpdate n s = .next t ∧ execUpdate n (s.setStaging d0 d1) = .next (t.setStaging d0 d1) := by
  rcases Nat.lt_or_ge 16 n.toNat with hlong | hlen
  · exact ⟨_, execUpdate_of_long s hlong, execUpdate_of_long _ hlong⟩
  · cases hphase : s.phase with
    | finalized =>
      exact ⟨_, execUpdate_of_finalized hlen hphase, execUpdate_of_finalized (s := s.setStaging d0 d1) hlen hphase⟩
    | opened =>
      have hstaged : (s.setStaging d0 d1).stagedBytes n.toNat = s.stagedBytes n.toNat := laneBytes_congr hlanes
      refine ⟨_, execUpdate_of_opened hlen hphase,
        (execUpdate_of_opened (s := s.setStaging d0 d1) hlen hphase).trans ?_⟩
      rw [hstaged, State.pushAll_setStaging]
      rfl

/-- Settles O37: the lanes of `{DATA1, DATA0}`, and `execUpdate_setStaging` for the lanes from LEN on. -/
theorem dataLaneOrder : Obligations.DataLaneOrder := by
  refine ⟨fun d0 d1 j => ⟨laneByte_of_lt, fun hj _ => laneByte_of_ge hj⟩, fun s n => rfl,
    fun n s hn hphase => execUpdate_of_opened hn hphase, fun n s t t' d0 d1 hlanes h h' => ?_,
    fun d0 d1 => packLanes_blockBytes (d1 ++ d0)⟩
  obtain ⟨u, hu, hu'⟩ := execUpdate_setStaging hlanes
  cases hu.symm.trans h
  cases hu'.symm.trans h'
  rfl

end Sys2Proof.Machine

namespace Sys2Proof.Machine

/-! ### The fields of a command word (R80, R83) -/

theorem toNat_eq_of_fields (w : Word) :
    w.toNat = (opField w).toNat + 256 * (lenField w).toNat + 8192 * (rsvdField w).toNat := by
  have hw := w.isLt
  simp only [opField, lenField, rsvdField, BitVec.extractLsb'_toNat, Nat.shiftRight_eq_div_pow]
  omega

/-- A command word is its three fields. -/
theorem word_eq_of_fields {v w : Word} (hop : opField v = opField w) (hlen : lenField v = lenField w)
    (hrsvd : rsvdField v = rsvdField w) : v = w :=
  BitVec.eq_of_toNat_eq (by rw [toNat_eq_of_fields v, toNat_eq_of_fields w, hop, hlen, hrsvd])

/-- What matches UPDATE's row has OP = 2 and RSVD = 0 (R83). -/
theorem and_updateMask_eq_iff (w : Word) :
    w &&& 0xFFFFFFFFFFFFE0FF = 0x2 ↔ opField w = 2 ∧ rsvdField w = 0 := by
  have hop : opField (w &&& 0xFFFFFFFFFFFFE0FF) = opField w := by
    rw [opField, BitVec.extractLsb'_and]; exact BitVec.and_allOnes
  have hlen : lenField (w &&& 0xFFFFFFFFFFFFE0FF) = 0 := by
    rw [lenField, BitVec.extractLsb'_and]; exact BitVec.and_zero
  have hrsvd : rsvdField (w &&& 0xFFFFFFFFFFFFE0FF) = rsvdField w := by
    rw [rsvdField, BitVec.extractLsb'_and]; exact BitVec.and_allOnes
  constructor
  · intro h
    rw [← hop, ← hrsvd, h]
    decide
  · rintro ⟨h2, h0⟩
    exact word_eq_of_fields (hop.trans h2) hlen (hrsvd.trans h0)

/-! ### The command decoder, check by check (R84 to R88) -/

/-- The illegal opcodes (R84). -/
theorem commandOfOp_eq_none_iff (op : Byte) (len : BitVec 5) : commandOfOp op len = none ↔ 5 ≤ op.toNat := by
  unfold commandOfOp
  generalize op.toNat = k
  rcases k with _ | _ | _ | _ | _ | k <;> simp

theorem decodeCommandWord_of_illegalOp {w : Word} (h : 5 ≤ (opField w).toNat) :
    decodeCommandWord w = .error .cmdOpcode := by
  rw [decodeCommandWord, (commandOfOp_eq_none_iff _ _).mpr h]

theorem exists_commandOfOp {op : Byte} (h : op.toNat ≤ 4) (len : BitVec 5) : ∃ c, commandOfOp op len = some c :=
  Option.ne_none_iff_exists'.mp fun hnone => absurd ((commandOfOp_eq_none_iff op len).mp hnone) (by omega)

theorem decodeCommandWord_of_reserved {w : Word} (hop : (opField w).toNat ≤ 4)
    (h : rsvdField w ≠ 0 ∨ (opField w ≠ 2 ∧ lenField w ≠ 0)) : decodeCommandWord w = .error .cmdRsvd := by
  obtain ⟨c, hc⟩ := exists_commandOfOp hop (lenField w)
  simp only [decodeCommandWord, hc, if_pos h]

/-- An UPDATE word without reserved bits is decided by LEN (R87). -/
theorem decodeCommandWord_of_update {w : Word} (hop : opField w = 2) (hrsvd : rsvdField w = 0) :
    decodeCommandWord w = if 16 < (lenField w).toNat then .error .cmdLen else .ok (.update (lenField w)) := by
  simp [decodeCommandWord, commandOfOp, hop, hrsvd]

/-- An accepted word passed the three checks. -/
theorem decodeCommandWord_ok {w : Word} {c : Command} (h : decodeCommandWord w = .ok c) :
    commandOfOp (opField w) (lenField w) = some c ∧ rsvdField w = 0 ∧ (opField w ≠ 2 → lenField w = 0) ∧
      (opField w = 2 → (lenField w).toNat ≤ 16) := by
  unfold decodeCommandWord at h
  split at h
  · cases h
  · rename_i c' hc
    split at h
    · cases h
    · rename_i hreserved
      split at h
      · cases h
      · rename_i hlong
        cases h
        push Not at hreserved hlong
        exact ⟨hc, hreserved.1, hreserved.2, hlong⟩


/-- The fields of an UPDATE word (R83). -/
theorem fields_updateWord : ∀ n : BitVec 5,
    opField (0x2 + (n.setWidth 64 <<< 8)) = 2 ∧ lenField (0x2 + (n.setWidth 64 <<< 8)) = n ∧
      rsvdField (0x2 + (n.setWidth 64 <<< 8)) = 0 := by
  decide

/-- The words of a command are its encoding, and nothing else (R83). -/
theorem decodeCommandWord_ok_iff (w : Word) (c : Command) :
    decodeCommandWord w = .ok c ↔ c.toInstr.WellFormed ∧ .command w = encode c.toInstr := by
  constructor
  · intro h
    obtain ⟨hc, hrsvd, hlen, hshort⟩ := decodeCommandWord_ok h
    have plain (v : Word) (hv : opField v ≠ 2 ∧ lenField v = 0 ∧ rsvdField v = 0)
        (hop : (opField w).toNat = (opField v).toNat) : w = v := by
      have hop := BitVec.eq_of_toNat_eq hop
      exact word_eq_of_fields hop ((hlen (hop ▸ hv.1)).trans hv.2.1.symm) (hrsvd.trans hv.2.2.symm)
    unfold commandOfOp at hc
    split at hc <;> cases hc
    case h_1 hop => exact ⟨rfl, congrArg Encoding.command (plain 0x0 (by decide) hop)⟩
    case h_2 hop => exact ⟨rfl, congrArg Encoding.command (plain 0x1 (by decide) hop)⟩
    case h_3 hop =>
      have hop := BitVec.eq_of_toNat_eq (y := 2) hop
      obtain ⟨hop', hlen', hrsvd'⟩ := fields_updateWord (lenField w)
      exact ⟨decide_eq_true (hshort hop),
        congrArg Encoding.command (word_eq_of_fields (hop.trans hop'.symm) hlen'.symm (hrsvd.trans hrsvd'.symm))⟩
    case h_4 hop => exact ⟨rfl, congrArg Encoding.command (plain 0x3 (by decide) hop)⟩
    case h_5 hop => exact ⟨rfl, congrArg Encoding.command (plain 0x4 (by decide) hop)⟩
  · rintro ⟨hwf, henc⟩
    cases c with
    | update n =>
      cases henc
      obtain ⟨hop, hlen, hrsvd⟩ := fields_updateWord n
      have hn : n.toNat ≤ 16 := of_decide_eq_true hwf
      rw [decodeCommandWord_of_update hop hrsvd, hlen, if_neg (by omega)]
    | _ => cases henc; decide

/-- Settles O4: a command's words are its encoding, and UPDATE's fields are what its mask leaves. -/
theorem opcodeMapSelectsCommands : Obligations.OpcodeMapSelectsCommands := by
  intro w
  have hupdate (n : BitVec 5) : decodeCommandWord w = .ok (.update n) ↔
      n.toNat ≤ 16 ∧ w = 0x0000000000000002 + (n.setWidth 64 <<< 8) := by
    simp [decodeCommandWord_ok_iff, Command.toInstr, Instr.WellFormed, Instr.wellFormed, encode]
  refine ⟨?_, ?_, ?_, ?_, hupdate, ?_, decodeCommandWord_of_illegalOp⟩
  iterate 4
    · simp [decodeCommandWord_ok_iff, Command.toInstr, Instr.WellFormed, Instr.wellFormed, encode]
  rw [and_updateMask_eq_iff]
  constructor
  · rintro ⟨n, h⟩
    obtain ⟨hn, rfl⟩ := (hupdate n).mp h
    obtain ⟨hop, hlen, hrsvd⟩ := fields_updateWord n
    exact ⟨⟨hop, hrsvd⟩, (congrArg BitVec.toNat hlen).trans_le hn⟩
  · rintro ⟨⟨hop, hrsvd⟩, hlen⟩
    exact ⟨lenField w, (decodeCommandWord_of_update hop hrsvd).trans (if_neg (Nat.not_lt.mpr hlen))⟩

/-! ### Malformed command words (R84, R86, R87) -/

/-- A command error is a refusal with its code and OKAY (R213, R214). -/
theorem State.raiseCmdError_eq_refusedCommand {e : ErrCode} (he : e = .cmdOpcode ∨ e = .cmdRsvd ∨ e = .cmdLen)
    (s : State) : s.raiseCmdError e = s.refusedCommand e.code := by
  rcases he with rfl | rfl | rfl <;>
    simp [State.raiseCmdError, State.recordError, State.respond, State.refusedCommand, okay,
      ErrCode.setsErrCmd, ErrCode.setsErrState, ErrCode.setsErrBus]

theorem exec_wrCmd_error {w : Word} {e : ErrCode} (h : decodeCommandWord w = .error e) (s : State) :
    exec (.wrCmd w) s = .next (s.refusedCommand e.code) :=
  (execWrCmd_error w s e h).trans
    (congrArg _ (State.raiseCmdError_eq_refusedCommand (decodeCommandWord_error w e h) s))

/-- Settles O11: the first check of the command decoder. -/
theorem illegalOpcodeIsRecorded : Obligations.IllegalOpcodeIsRecorded :=
  fun _ s hop => exec_wrCmd_error (decodeCommandWord_of_illegalOp hop) s

/-- Settles O12: the second check of the command decoder. -/
theorem reservedBitsAreRecorded : Obligations.ReservedBitsAreRecorded :=
  fun _ s hop hbits => exec_wrCmd_error (decodeCommandWord_of_reserved hop hbits) s

/-- Settles O13: the third check of the command decoder, and an UPDATE that pushes no byte. -/
theorem lenRangeIsChecked : Obligations.LenRangeIsChecked := by
  intro w s hop hrsvd
  have hdec := decodeCommandWord_of_update hop hrsvd
  refine ⟨fun hlen => exec_wrCmd_error (hdec.trans (if_pos hlen)) s, fun hlen hphase => ?_⟩
  have hzero : decodeCommandWord w = .ok (.update 0) := by
    rw [hdec, show lenField w = 0 from hlen]
    rfl
  exact (execWrCmd_ok w s _ hzero).trans (execUpdate_of_opened (n := 0) (by decide) hphase)

end Sys2Proof.Machine
namespace Sys2Proof.Machine

/-! ### Accesses as the host names them: a direction and a register (R56, R89) -/

theorem offsetOf_aligned (r : RegName) : (offsetOf r).toNat % 8 = 0 := by
  cases r with
  | const i => revert i; decide
  | table i => revert i; decide
  | _ => decide

theorem decodeOffset_offsetOf (r : RegName) : decodeOffset (offsetOf r) = some r := by
  cases r with
  | const i => revert i; decide
  | table i => revert i; decide
  | _ => decide

/-- An aligned offset decodes to the register that stands there (R55). -/
theorem offsetOf_of_decodeOffset {off : Offset} {r : RegName} (halign : off.toNat % 8 = 0)
    (h : decodeOffset off = some r) : off = offsetOf r := by
  apply BitVec.eq_of_toNat_eq
  unfold decodeOffset at h
  split at h
  case h_13 =>
    split at h
    · cases h
      simp [offsetOf]
      omega
    · split at h
      · cases h
        simp [offsetOf]
        omega
      · cases h
  all_goals cases h; assumption

/-- What the bus accepts: 8 bytes at a register that has the form of the access (R55, R56). -/
theorem decodeAccess_ok_iff (a : Access) (i : Instr) :
    decodeAccess a = .ok i ↔ a.size = 8 ∧ ∃ r, a.off = offsetOf r ∧
      ((a.dir = .read ∧ readForm r = some i) ∨ (a.dir = .write ∧ writeForm r a.wdata = some i)) := by
  constructor
  · intro h
    obtain ⟨hsize, halign⟩ : a.size = 8 ∧ a.off.toNat % 8 = 0 := by
      by_contra hbad
      cases h.symm.trans ((decodeAccess_busAlign_iff a).mpr (by omega))
    cases hreg : decodeOffset a.off with
    | none => simp [decodeAccess, hsize, halign, hreg] at h
    | some r =>
      refine ⟨hsize, r, offsetOf_of_decodeOffset halign hreg, ?_⟩
      cases hdir : a.dir with
      | read => cases hform : readForm r <;> simp_all [decodeAccess]
      | write => cases hform : writeForm r a.wdata <;> simp_all [decodeAccess]
  · rintro ⟨hsize, r, hoff, ⟨hdir, hform⟩ | ⟨hdir, hform⟩⟩
    all_goals simp [decodeAccess, hsize, hoff, offsetOf_aligned, decodeOffset_offsetOf, hdir, hform]

/-- An access code is `{dir, off[11:0]}` (R89). -/
theorem accessCode_eq_append_iff (a : AccessCode) (d : Bool) (off : Offset) :
    a = BitVec.ofBool d ++ off ↔ a.getLsbD 12 = d ∧ a.extractLsb' 0 12 = off := by
  constructor
  · rintro rfl
    constructor
    · rw [BitVec.getLsbD_append]
      simp
    · exact BitVec.extractLsb'_append_eq_right
  · rintro ⟨rfl, rfl⟩
    apply BitVec.eq_of_getLsbD_eq
    intro i hi
    rw [BitVec.getLsbD_append]
    rcases Nat.lt_or_ge i 12 with h | h
    · simp [h]
    · obtain rfl : i = 12 := by omega
      simp

theorem encode_of_readForm {r : RegName} {i : Instr} (h : readForm r = some i) :
    encode i = .access (BitVec.ofBool false ++ offsetOf r) 0 := by
  cases r with
  | const i => cases h; revert i; decide
  | table i => cases h; revert i; decide
  | _ => cases h <;> rfl

theorem encode_of_writeForm {r : RegName} {v : Word} {i : Instr} (h : writeForm r v = some i) :
    encode i = .access (BitVec.ofBool true ++ offsetOf r) v := by
  cases r with
  | cmd | data0 | data1 => cases h; rfl
  | _ => cases h

theorem isRead_of_writeForm {r : RegName} {v : Word} {i : Instr} (h : writeForm r v = some i) : i.isRead = false := by
  rcases writeForm_cases h with rfl | rfl | rfl <;> rfl

/-- Every access form that is no read is the write form of a register. -/
theorem exists_writeForm {i : Instr} {a : AccessCode} {x : Word} (hread : i.isRead = false)
    (h : .access a x = encode i) : ∃ r v, writeForm r v = some i := by
  cases i with
  | wrCmd w => exact ⟨.cmd, w, rfl⟩
  | wrData0 v => exact ⟨.data0, v, rfl⟩
  | wrData1 v => exact ⟨.data1, v, rfl⟩
  | nop | init | update | finalize | clrerr => cases h
  | _ => cases hread

theorem exists_readForm {i : Instr} (h : i.isRead = true) : ∃ r, readForm r = some i := by
  cases i with
  | rdId => exact ⟨.id, rfl⟩
  | rdStatus => exact ⟨.status, rfl⟩
  | rdData0 => exact ⟨.data0, rfl⟩
  | rdData1 => exact ⟨.data1, rfl⟩
  | rdResult => exact ⟨.result, rfl⟩
  | rdCount => exact ⟨.count, rfl⟩
  | rdAcc => exact ⟨.acc, rfl⟩
  | rdFoldLo => exact ⟨.foldLo, rfl⟩
  | rdFoldHi => exact ⟨.foldHi, rfl⟩
  | rdTail0 => exact ⟨.tail0, rfl⟩
  | rdTail1 => exact ⟨.tail1, rfl⟩
  | rdConst i => exact ⟨.const i, rfl⟩
  | rdTable i => exact ⟨.table i, rfl⟩
  | _ => cases h

/-- An access code selects the form that it encodes; a read ignores the data lines, a write takes its data there
(R89, log 12). -/
theorem decodeAccess_ofCode_iff (a : AccessCode) (v : Word) (i : Instr) :
    decodeAccess (Access.ofCode a v) = .ok i ↔ .access a (if i.isRead then 0 else v) = encode i := by
  rw [decodeAccess_ok_iff]
  constructor
  · rintro ⟨-, r, hoff, ⟨hdir, hform⟩ | ⟨hdir, hform⟩⟩
    · have hbit : a.getLsbD 12 = false := by simpa [Access.ofCode] using hdir
      rw [if_pos (isRead_of_readForm hform), encode_of_readForm hform,
        (accessCode_eq_append_iff a _ _).mpr ⟨hbit, hoff⟩]
    · have hbit : a.getLsbD 12 = true := by simpa [Access.ofCode] using hdir
      rw [if_neg (by rw [isRead_of_writeForm hform]; simp), encode_of_writeForm hform,
        (accessCode_eq_append_iff a _ _).mpr ⟨hbit, hoff⟩]
      rfl
  · intro h
    cases hread : i.isRead with
    | true =>
      obtain ⟨r, hform⟩ := exists_readForm hread
      rw [encode_of_readForm hform] at h
      obtain ⟨hbit, hoff⟩ := (accessCode_eq_append_iff a _ _).mp (Encoding.access.inj h).1
      exact ⟨rfl, r, hoff, .inl ⟨by simp only [Access.ofCode, hbit]; rfl, hform⟩⟩
    | false =>
      obtain ⟨r, x, hform⟩ := exists_writeForm hread h
      rw [hread, encode_of_writeForm hform] at h
      obtain ⟨hcode, rfl⟩ := Encoding.access.inj h
      obtain ⟨hbit, hoff⟩ := (accessCode_eq_append_iff a _ _).mp hcode
      exact ⟨rfl, r, hoff, .inr ⟨if_pos hbit, hform⟩⟩

/-- A code with an index field above bit 2, from what the field's complement matches (R89). -/
theorem indexedCode_eq_iff {len : Nat} {base mask : AccessCode}
    (hmask : mask ||| ((BitVec.allOnes len).setWidth 13 <<< 3) = BitVec.allOnes 13)
    (hbase : ∀ i : BitVec len, base ||| (i.setWidth 13 <<< 3) = base + (i.setWidth 13 <<< 3))
    (hcode : ∀ i : BitVec len, (base + (i.setWidth 13 <<< 3)) &&& mask = base ∧
      i = (base + (i.setWidth 13 <<< 3)).extractLsb' 3 len) (a : AccessCode) (i : BitVec len) :
    a = base + (i.setWidth 13 <<< 3) ↔ a &&& mask = base ∧ i = a.extractLsb' 3 len := by
  constructor
  · rintro rfl
    exact hcode i
  · rintro ⟨hmatch, rfl⟩
    have hfield : a &&& ((BitVec.allOnes len).setWidth 13 <<< 3) = (a.extractLsb' 3 len).setWidth 13 <<< 3 := by
      apply BitVec.eq_of_getLsbD_eq
      intro k hk
      rcases Nat.lt_or_ge k 3 with h | h
      · simp [h]
      · simp [hk, show 3 + (k - 3) = k by omega, Bool.and_comm, Bool.and_assoc]
    calc a = (a &&& mask) ||| (a &&& ((BitVec.allOnes len).setWidth 13 <<< 3)) := by
          rw [← BitVec.and_or_distrib_left, hmask, BitVec.and_allOnes]
      _ = base + ((a.extractLsb' 3 len).setWidth 13 <<< 3) := by rw [hmatch, hfield, hbase]

/-- Settles O5: a code selects the form that it encodes, and the ROM windows are the codes with an index field. -/
theorem accessCodesSelectForms : Obligations.AccessCodesSelectForms := by
  intro a v
  have hform := decodeAccess_ofCode_iff a v
  refine ⟨?_, ?_, ?_, ?_, ?_, ?_, ?_, ?_, ?_, ?_, ?_, fun i => ?_, fun i => ?_, fun w => ?_, fun w => ?_, fun w => ?_,
    fun i h => ?_, fun e => decodeAccess_error _ e⟩
  case refine_12 =>
    rw [← indexedCode_eq_iff (by decide) (by decide) (by decide)]
    simp [hform, Instr.isRead, encode]
  case refine_13 =>
    rw [← indexedCode_eq_iff (by decide) (by decide) (by decide)]
    simp [hform, Instr.isRead, encode]
  case refine_17 =>
    have hencode := (hform i).mp h
    refine ⟨?_, ?_, fun n => ?_, ?_, ?_⟩
    all_goals
      rintro rfl
      cases hencode
  all_goals simp [hform, Instr.isRead, encode, eq_comm (a := v)]

end Sys2Proof.Machine

namespace Sys2Proof.Machine

/-! ### A run over events that keep the stream (R180) -/

section
variable {M : Host.Core} {s t : M.State}

theorem run_succ_of_step (h : M.step s = .next t) (k : Nat) : M.run (k + 1) s = M.run k t := by
  simp [Host.Core.run, h]

theorem run_add {m : Nat} (h : M.run m s = .next t) (n : Nat) : M.run (m + n) s = M.run n t := by
  induction m generalizing s with
  | zero => cases h; rw [Nat.zero_add]
  | succ m ih =>
    rw [Nat.add_right_comm]
    cases hstep : M.step s with
    | next u =>
      rw [run_succ_of_step hstep] at h ⊢
      exact ih h
    | fault | refused => simp [Host.Core.run, hstep] at h

end

theorem exists_step_of_access {s : State} {a : Access} {rest : List HostEvent} (h : s.pending = .access a :: rest) :
    ∃ t, step s = .next t := by
  cases hdec : decodeAccess a with
  | error e => exact ⟨_, step_of_refused h hdec⟩
  | ok i =>
    obtain ⟨u, v, hu, -⟩ := exec_answers i { s with pending := rest }
    exact ⟨_, (step_of_decoded h hdec).trans hu⟩

/-- What is staged after an access (R28, R181). -/
theorem step_of_access_staging {s t : State} {a : Access} {rest : List HostEvent}
    (h : s.pending = .access a :: rest) (hstep : step s = .next t) :
    t.data0 = data0After s.data0 a ∧ t.data1 = data1After s.data1 a := by
  cases hdec : decodeAccess a with
  | error e =>
    cases (step_of_refused h hdec).symm.trans hstep
    simp [data0After, data1After, hdec, State.raiseBusError]
  | ok i =>
    have hexec := (step_of_decoded h hdec).symm.trans hstep
    obtain ⟨h0, h1⟩ := exec_staging hexec
    cases i with
    | wrData0 v => cases hexec; simp [data0After, data1After, hdec]
    | wrData1 v => cases hexec; simp [data0After, data1After, hdec]
    | _ => simp [data0After, data1After, hdec, h0, h1]

/-- Events that keep the stream, one step each, append what they feed. -/
theorem State.Represents.run {s : State} {S : List Byte} {evs rest : List HostEvent} (h : s.Represents S)
    (hkeeps : ∀ e ∈ evs, keepsStream e = true) (hpending : s.pending = evs ++ rest) :
    ∃ t : State, Host.Core.run core evs.length s = .next t ∧ t.pending = rest ∧
      t.Represents (S ++ streamOf s.data0 s.data1 evs) := by
  induction evs generalizing s S with
  | nil => exact ⟨s, rfl, hpending, by simpa [streamOf] using h⟩
  | cons e evs ih =>
    obtain ⟨hfirst, hothers⟩ := List.forall_mem_cons.mp hkeeps
    cases e with
    | reset q => cases hfirst
    | access a =>
      obtain ⟨u, hstep⟩ := exists_step_of_access hpending
      obtain ⟨hrest, -⟩ := step_of_access_answers hpending hstep
      obtain ⟨h0, h1⟩ := step_of_access_staging hpending hstep
      obtain ⟨t, hrun, ht, hstream⟩ := ih (h.step hpending hfirst hstep) hothers hrest
      refine ⟨t, (run_succ_of_step (M := core) hstep _).trans hrun, ht, ?_⟩
      simpa [streamOf, h0, h1] using hstream

/-! ### A whole digest: INIT, a stream, FINALIZE (R180) -/

/-- An 8-byte write of a register is its write form (R56, R89). -/
theorem decodeAccess_busWrite {r : RegName} {v : Word} {i : Instr} (h : writeForm r v = some i) :
    decodeAccess (busWrite (offsetOf r) v) = .ok i :=
  (decodeAccess_ok_iff _ i).mpr ⟨rfl, r, rfl, .inr ⟨rfl, h⟩⟩

/-- A command word written to CMD runs its command (R80, R88). -/
theorem step_of_command {s : State} {w : Word} {c : Command} {rest : List HostEvent}
    (h : s.pending = .access (busWrite (offsetOf .cmd) w) :: rest) (hdec : decodeCommandWord w = .ok c) :
    step s = execCommand c { s with pending := rest } := by
  rw [step_of_decoded h (decodeAccess_busWrite rfl)]
  exact execWrCmd_ok w _ c hdec

/-- FINALIZE puts the checksum of the stream in RESULT (R34, R177). -/
theorem State.Represents.result_closeDigest {s : State} {S : List Byte} (h : s.Represents S) :
    s.reduceFold.drainTail.closeDigest.result = crc64nvme S := by
  rw [State.result, State.closeDigest_phase, State.closeDigest_acc, State.drainTail_acc, State.reduceFold_acc,
    State.reduceFold_tail, ← h.crcReg_eq]
  rfl

/-- INIT starts the empty stream and leaves what is staged (R172). -/
theorem exists_step_of_init {s : State} {rest : List HostEvent}
    (h : s.pending = .access (encode .init).toAccess :: rest) :
    ∃ t, step s = .next t ∧ t.pending = rest ∧ t.Represents [] ∧ t.data0 = s.data0 ∧ t.data1 = s.data1 :=
  ⟨_, step_of_command (w := 0x1) (c := .init) h (by decide), rfl,
    State.startDigest_represents { s with pending := rest }, rfl, rfl⟩

/-- FINALIZE ends the stream (R177). -/
theorem State.Represents.exists_step_of_finalize {s : State} {S : List Byte} {rest : List HostEvent}
    (h : s.Represents S) (hpending : s.pending = .access (encode .finalize).toAccess :: rest) :
    ∃ t, Machine.step s = .next t ∧ t.pending = rest ∧ t.phase = .finalized ∧ t.result = crc64nvme S := by
  have hrest : { s with pending := rest }.Represents S := h
  exact ⟨_, (step_of_command (w := 0x3) (c := .finalize) hpending (by decide)).trans (execFinalize_of_opened hrest.1),
    by simp, rfl, hrest.result_closeDigest⟩

/-- INIT, events that keep the stream and FINALIZE, from any state, leave the checksum of the stream in RESULT. -/
theorem run_digest {s : State} {evs rest : List HostEvent} (hkeeps : ∀ e ∈ evs, keepsStream e = true)
    (hpending : s.pending =
      .access (encode .init).toAccess :: (evs ++ .access (encode .finalize).toAccess :: rest)) :
    ∃ t : State, Host.Core.run core (evs.length + 2) s = .next t ∧ t.pending = rest ∧ t.phase = .finalized ∧
      t.result = crc64nvme (streamOf s.data0 s.data1 evs) := by
  obtain ⟨u, hinit, hu, hempty, h0, h1⟩ := exists_step_of_init hpending
  obtain ⟨v, hrun, hv, hstream⟩ := hempty.run hkeeps hu
  obtain ⟨t, hfinal, ht, hphase, hresult⟩ := hstream.exists_step_of_finalize hv
  refine ⟨t, ?_, ht, hphase, by rw [hresult, h0, h1, List.nil_append]⟩
  calc Host.Core.run core (evs.length + 2) s
      = Host.Core.run core (evs.length + 1) u := run_succ_of_step (M := core) hinit _
    _ = Host.Core.run core 1 v := run_add hrun 1
    _ = .next t := run_succ_of_step (M := core) hfinal 0

/-! ### What FEED feeds (R92) -/

theorem decodeCommandWord_updateLine {n : Nat} (hn : n ≤ 16) :
    decodeCommandWord (0x2 + (BitVec.ofNat 64 n <<< 8)) = .ok (.update (BitVec.ofNat 5 n)) := by
  interval_cases n <;> decide

theorem runs_wrCmd {w : Word} {c : Command} (h : decodeCommandWord w = .ok c) : (Instr.wrCmd w).runs = some c := by
  simp [Instr.runs, h]

/-- The UPDATE line carries UPDATE (R91). -/
theorem command_updateLine {n : Nat} (hn : n ≤ 16) :
    (updateLine n).toAccess.command = some (.update (BitVec.ofNat 5 n)) :=
  (command_of_decoded (decodeAccess_busWrite rfl)).trans (runs_wrCmd (decodeCommandWord_updateLine hn))

theorem command_writeLine_data0 (v : Word) : (HostLine.write .data0 v).toAccess.command = none :=
  command_of_decoded (i := .wrData0 v) (decodeAccess_busWrite rfl)

theorem command_writeLine_data1 (v : Word) : (HostLine.write .data1 v).toAccess.command = none :=
  command_of_decoded (i := .wrData1 v) (decodeAccess_busWrite rfl)

theorem streamOf_writeLine_data0 (d0 d1 v : Word) (es : List HostEvent) :
    streamOf d0 d1 (.access (HostLine.write .data0 v).toAccess :: es) = streamOf v d1 es := by
  have hdec : decodeAccess (HostLine.write .data0 v).toAccess = .ok (.wrData0 v) := decodeAccess_busWrite rfl
  simp [streamOf, fedBytes, command_writeLine_data0, data0After, data1After, hdec]

theorem streamOf_writeLine_data1 (d0 d1 v : Word) (es : List HostEvent) :
    streamOf d0 d1 (.access (HostLine.write .data1 v).toAccess :: es) = streamOf d0 v es := by
  have hdec : decodeAccess (HostLine.write .data1 v).toAccess = .ok (.wrData1 v) := decodeAccess_busWrite rfl
  simp [streamOf, fedBytes, command_writeLine_data1, data0After, data1After, hdec]

theorem streamOf_updateLine {n : Nat} (hn : n ≤ 16) (d0 d1 : Word) (es : List HostEvent) :
    streamOf d0 d1 (.access (updateLine n).toAccess :: es) = laneBytes d0 d1 n ++ streamOf d0 d1 es := by
  have hdec : decodeAccess (updateLine n).toAccess = .ok (.wrCmd _) := decodeAccess_busWrite rfl
  rw [streamOf, fedBytes_of_update (command_updateLine hn), BitVec.toNat_ofNat, Nat.mod_eq_of_lt (by omega)]
  simp [data0After, data1After, hdec]

/-- The lanes of a packed chunk are its bytes; DATA1 matters only to a chunk of more than 8 bytes. -/
theorem laneBytes_of_packed {c : List Byte} {d1 : Word} (hlen : c.length ≤ 16)
    (hd1 : 8 < c.length → d1 = packLanes 64 (c.drop 8)) :
    laneBytes (packLanes 64 (c.take 8)) d1 c.length = c := by
  apply List.ext_getElem
  · simp [laneBytes]
  · intro j hj hj'
    simp only [laneBytes, List.getElem_map, List.getElem_range]
    rcases Nat.lt_or_ge j 8 with h | h
    · rw [laneByte_of_lt h, packLanes_lane _ j (by omega), List.getD_eq_getElem _ _ (by simp; omega),
        List.getElem_take]
    · rw [laneByte_of_ge h, hd1 (by omega), packLanes_lane _ _ (by omega), List.getD_eq_getElem _ _ (by simp; omega),
        List.getElem_drop]
      simp [show 8 + (j - 8) = j by omega]

/-- The lines of a chunk feed the chunk, whatever was staged before (R92). -/
theorem streamOf_chunkLines {c : List Byte} (hlen : c.length ≤ 16) (d0 d1 : Word) :
    ∃ e0 e1, ∀ es, streamOf d0 d1 (hostEvents (chunkLines c) ++ es) = c ++ streamOf e0 e1 es := by
  by_cases hlong : 8 < c.length
  · refine ⟨packLanes 64 (c.take 8), packLanes 64 (c.drop 8), fun es => ?_⟩
    simp [hostEvents, chunkLines, hlong, streamOf_writeLine_data0, streamOf_writeLine_data1, streamOf_updateLine hlen,
      laneBytes_of_packed hlen]
  · refine ⟨packLanes 64 (c.take 8), d1, fun es => ?_⟩
    simp [hostEvents, chunkLines, hlong, streamOf_writeLine_data0, streamOf_updateLine hlen, laneBytes_of_packed hlen]

theorem keepsStream_chunkLines {c : List Byte} (hlen : c.length ≤ 16) :
    ∀ e ∈ hostEvents (chunkLines c), keepsStream e = true := by
  by_cases hlong : 8 < c.length <;>
    simp [hostEvents, chunkLines, hlong, keepsStream, command_updateLine hlen, command_writeLine_data0,
      command_writeLine_data1]

theorem hostEvents_append (ls ms : List HostLine) : hostEvents (ls ++ ms) = hostEvents ls ++ hostEvents ms :=
  List.map_append

/-- FEED's lines keep the stream and feed its bytes (R92). -/
theorem feedChunks_feed {fuel : Nat} {bytes : List Byte} (hfuel : bytes.length ≤ fuel) (d0 d1 : Word) :
    (∀ e ∈ hostEvents (feedChunks fuel bytes), keepsStream e = true) ∧
      streamOf d0 d1 (hostEvents (feedChunks fuel bytes)) = bytes := by
  induction fuel generalizing bytes d0 d1 with
  | zero =>
    obtain rfl := List.eq_nil_of_length_eq_zero (Nat.le_zero.mp hfuel)
    exact ⟨nofun, rfl⟩
  | succ fuel ih =>
    cases bytes with
    | nil => exact ⟨nofun, rfl⟩
    | cons b bs =>
      have hchunk : ((b :: bs).take 16).length ≤ 16 := by simp
      have hrest : ((b :: bs).drop 16).length ≤ fuel := by
        rw [List.length_drop]; simp at hfuel ⊢; omega
      obtain ⟨e0, e1, hstream⟩ := streamOf_chunkLines hchunk d0 d1
      obtain ⟨hkeeps, hfeed⟩ := ih hrest e0 e1
      rw [feedChunks, hostEvents_append]
      refine ⟨fun e he => (List.mem_append.mp he).elim (keepsStream_chunkLines hchunk e) (hkeeps e), ?_⟩
      rw [hstream, hfeed, List.take_append_drop]

/-- Settles O58: FEED's lines feed the bytes, so `run_digest` puts their checksum in RESULT, and the last line reads
RESULT. -/
theorem crcPseudoInstructionGivesChecksum : Obligations.CrcPseudoInstructionGivesChecksum := by
  refine fun bytes => ⟨rfl, fun s rest hpending => ?_⟩
  obtain ⟨hkeeps, hfeed⟩ := feedChunks_feed (Nat.le_refl bytes.length) s.data0 s.data1
  have hlines : hostEvents (crcLines bytes) ++ rest = .access (encode .init).toAccess ::
      (hostEvents (feedLines bytes) ++ .access (encode .finalize).toAccess ::
        .access (busRead (offsetOf .result)) :: rest) := by
    rw [crcLines, hostEvents_append, hostEvents_append, List.append_assoc, List.append_assoc]
    rfl
  obtain ⟨t, hrun, ht, -, hresult⟩ := run_digest hkeeps (hpending.trans hlines)
  have hread : step t = .next ({ t with pending := rest }.respond (okay t.result)) :=
    step_of_decoded ht (decodeAccess_busRead (by decide) (decodeOffset_offsetOf .result) rfl)
  have hresult : t.result = crc64nvme bytes := hresult.trans (congrArg _ hfeed)
  refine ⟨{ t with pending := rest }.respond (okay t.result), ?_, rfl, ?_, hresult⟩
  · have hlength : (crcLines bytes).length = (hostEvents (feedLines bytes)).length + 2 + 1 := by
      simp [crcLines, hostEvents]
    rw [hlength]
    exact (run_add hrun 1).trans (run_succ_of_step (M := core) hread 0)
  · simp [okay, hresult]

end Sys2Proof.Machine

namespace Sys2Proof.Machine

open Polynomial

/-! ### The polynomial view of a word (R12) -/

theorem bitTerm_mul_X_pow (b : Bool) (n m : Nat) : bitTerm b n * X ^ m = bitTerm b (n + m) := by
  cases b <;> simp [pow_add]

/-- A word and its reversal are one polynomial, read in the reflected and in the normal form. -/
theorem poly64_eq_polyNormal {v w : Word} (h : ∀ i < 64, v.getLsbD i = w.getLsbD (63 - i)) :
    poly64 v = polyNormal w := by
  rw [polyNormal, ← Finset.sum_range_reflect]
  exact Finset.sum_congr rfl fun i hi => by rw [h i (Finset.mem_range.mp hi)]

theorem degree_poly64_lt (v : Word) : (poly64 v).degree < 64 := by
  have hterm (i : Nat) : bitTerm (v.getLsbD i) (63 - i) ∈ degreeLT (ZMod 2) 64 := by
    cases v.getLsbD i
    · exact Submodule.zero_mem _
    · rw [bitTerm_true, mem_degreeLT, degree_X_pow]
      exact Nat.cast_lt.mpr (by omega)
  exact mem_degreeLT.mp (Submodule.sum_mem _ fun i _ => hterm i)

/-- The word 1 is x^63. -/
theorem poly64_one : poly64 1 = X ^ 63 := by
  rw [poly64, Finset.sum_eq_single 0 (fun i _ hi => by simp [hi]) (by simp)]
  rfl

/-! ### The generator polynomial (R111, R112) -/

/-- POLY_R is POLY_N with its 64 bits reversed (R112). -/
theorem polyR_getLsbD : ∀ i < 64, polyR.getLsbD i = polyN.getLsbD (63 - i) := by decide

theorem poly64_polyR : poly64 polyR = polyNormal polyN := poly64_eq_polyNormal polyR_getLsbD

theorem genPoly_eq : genPoly = X ^ 64 + poly64 polyR := by rw [genPoly, poly64_polyR]

theorem genPoly_monic : genPoly.Monic := by
  rw [genPoly_eq]
  exact monic_X_pow_add (degree_poly64_lt polyR)

theorem degree_genPoly : genPoly.degree = 64 := by
  rw [genPoly_eq, degree_add_eq_left_of_degree_lt] <;> rw [degree_X_pow]
  · rfl
  · exact degree_poly64_lt polyR

/-- A word is short enough to be a remainder modulo P, so a division with remainder that leaves a word is the division
by P. -/
theorem divMod_genPoly_of_eq {p q : GF2Poly} {v : Word} (h : p = poly64 v + genPoly * q) :
    p /ₘ genPoly = q ∧ p %ₘ genPoly = poly64 v := by
  refine div_modByMonic_unique q (poly64 v) genPoly_monic ⟨h.symm, ?_⟩
  rw [degree_genPoly]
  exact degree_poly64_lt v

/-! ### The shifts of the reference register divide by P (R110) -/

/-- A shift to the right multiplies by x; the bit that leaves was the coefficient of x^64. -/
theorem X_mul_poly64 (r : Word) : X * poly64 r = poly64 (r >>> 1) + bitTerm (r.getLsbD 0) 64 := by
  have hmove (i : Nat) (hi : i < 63) :
      bitTerm (r.getLsbD (i + 1)) (63 - (i + 1)) * X = bitTerm ((r >>> 1).getLsbD i) (63 - i) := by
    rw [← pow_one X, bitTerm_mul_X_pow, BitVec.getLsbD_ushiftRight, Nat.add_comm 1 i,
      show 63 - (i + 1) + 1 = 63 - i by omega]
  have hright : poly64 (r >>> 1) = ∑ i ∈ Finset.range 63, bitTerm ((r >>> 1).getLsbD i) (63 - i) := by
    rw [poly64, Finset.sum_range_succ, show (r >>> 1).getLsbD 63 = false by simp, bitTerm_false, add_zero]
  have hfirst : bitTerm (r.getLsbD 0) 63 * X = bitTerm (r.getLsbD 0) 64 := by rw [← pow_one X, bitTerm_mul_X_pow]
  rw [hright, mul_comm, poly64, Finset.sum_range_succ', add_mul, Finset.sum_mul, hfirst,
    Finset.sum_congr rfl fun i hi => hmove i (Finset.mem_range.mp hi)]

/-- One shift is one step of the division by P: the bit that leaves is the next bit of the quotient. -/
theorem X_mul_poly64_eq_crcShift (r : Word) :
    X * poly64 r = poly64 (crcShift r) + genPoly * bitTerm (r.getLsbD 0) 0 := by
  rw [X_mul_poly64, crcShift, genPoly_eq]
  cases r.getLsbD 0
  · simp
  · simp only [if_true, poly64_xor, bitTerm_true]
    linear_combination -(gf2_add_self (poly64 polyR))

/-- The quotient bits that `n` shifts of the register send out, the first one the highest. -/
noncomputable def shiftQuotient (n : Nat) (r : Word) : GF2Poly :=
  ∑ k ∈ Finset.range n, bitTerm ((crcShifts k r).getLsbD 0) (n - 1 - k)

theorem shiftQuotient_succ (n : Nat) (r : Word) :
    shiftQuotient (n + 1) r = shiftQuotient n (crcShift r) + bitTerm (r.getLsbD 0) n := by
  rw [shiftQuotient, Finset.sum_range_succ', shiftQuotient]
  congr 1
  exact Finset.sum_congr rfl fun k _ => by rw [show n + 1 - 1 - (k + 1) = n - 1 - k by omega]; rfl

/-- `n` shifts divide `x^n` times the register's polynomial by P: they leave the remainder and send out the quotient. -/
theorem X_pow_mul_poly64 (n : Nat) (r : Word) :
    X ^ n * poly64 r = poly64 (crcShifts n r) + genPoly * shiftQuotient n r := by
  induction n generalizing r with
  | zero => simp [shiftQuotient]
  | succ n ih =>
    have hbit : bitTerm (r.getLsbD 0) n = bitTerm (r.getLsbD 0) 0 * X ^ n := by rw [bitTerm_mul_X_pow, Nat.zero_add]
    rw [shiftQuotient_succ, hbit, crcShifts]
    linear_combination X ^ n * X_mul_poly64_eq_crcShift r + ih (crcShift r)

/-- The powers of x that the constants stand for, from the word 1. -/
theorem X_pow_divMod_genPoly (n : Nat) :
    X ^ (n + 63) /ₘ genPoly = shiftQuotient n 1 ∧ X ^ (n + 63) %ₘ genPoly = poly64 (crcShifts n 1) :=
  divMod_genPoly_of_eq (by rw [pow_add, ← poly64_one, X_pow_mul_poly64])

/-! ### The polynomial law of the reference (R13, R121) -/

/-- `poly8(b)` (R115): bit j is the coefficient of x^(7-j). -/
noncomputable def poly8 (b : Byte) : GF2Poly := ∑ j ∈ Finset.range 8, bitTerm (b.getLsbD j) (7 - j)

theorem poly64_setWidth (b : Byte) : poly64 (b.setWidth 64) = poly8 b * X ^ 56 := by
  have hlow (j : Nat) (hj : j < 8) :
      bitTerm ((b.setWidth 64).getLsbD j) (63 - j) = bitTerm (b.getLsbD j) (7 - j) * X ^ 56 := by
    rw [bitTerm_mul_X_pow, BitVec.getLsbD_setWidth, show 7 - j + 56 = 63 - j by omega]
    simp [show j < 64 by omega]
  have hhigh (i : Nat) : bitTerm ((b.setWidth 64).getLsbD (8 + i)) (63 - (8 + i)) = 0 := by
    rw [BitVec.getLsbD_setWidth, BitVec.getLsbD_of_ge b (8 + i) (by omega), Bool.and_false, bitTerm_false]
  rw [poly64, show 64 = 8 + 56 from rfl, Finset.sum_range_add,
    Finset.sum_congr rfl fun j hj => hlow j (Finset.mem_range.mp hj), Finset.sum_congr rfl fun i _ => hhigh i,
    Finset.sum_const_zero, add_zero, poly8, Finset.sum_mul]

@[simp] theorem msgPoly_nil : msgPoly [] = 0 := rfl

/-- The first byte of a stream has its highest powers (R13). -/
theorem msgPoly_cons (b : Byte) (bs : List Byte) :
    msgPoly (b :: bs) = poly8 b * X ^ (8 * bs.length) + msgPoly bs := by
  have hfirst (j : Nat) (hj : j < 8) :
      bitTerm (b.getLsbD j) (8 * bs.length + 7 - j) = bitTerm (b.getLsbD j) (7 - j) * X ^ (8 * bs.length) := by
    rw [bitTerm_mul_X_pow, show 7 - j + 8 * bs.length = 8 * bs.length + 7 - j by omega]
  rw [msgPoly, List.length_cons, Finset.sum_range_succ', add_comm, poly8, Finset.sum_mul, msgPoly]
  refine congrArg₂ (· + ·) (Finset.sum_congr rfl fun j hj => ?_) (Finset.sum_congr rfl fun k _ => ?_)
  · exact hfirst j (Finset.mem_range.mp hj)
  · rw [List.getD_cons_succ, show bs.length + 1 - 1 - (k + 1) = bs.length - 1 - k by omega]

/-- One byte of the reference: eight steps of the division, with the byte added at x^64. -/
theorem poly64_mul_X_pow_add_poly8 (r : Word) (b : Byte) :
    poly64 r * X ^ 8 + poly8 b * X ^ 64 =
      poly64 (crcByte r b) + genPoly * shiftQuotient 8 (r ^^^ b.setWidth 64) := by
  rw [crcByte, ← X_pow_mul_poly64, poly64_xor, poly64_setWidth]
  ring

/-- The division with remainder that the reference carries out on a stream (R121). -/
theorem exists_quotient_crcReg (r : Word) (S : List Byte) :
    ∃ q, poly64 r * X ^ (8 * S.length) + msgPoly S * X ^ 64 = poly64 (crcReg r S) + genPoly * q := by
  induction S generalizing r with
  | nil => exact ⟨0, by simp⟩
  | cons b bs ih =>
    obtain ⟨q, hq⟩ := ih (crcByte r b)
    refine ⟨q + shiftQuotient 8 (r ^^^ b.setWidth 64) * X ^ (8 * bs.length), ?_⟩
    rw [msgPoly_cons, List.length_cons, crcReg_cons, Nat.mul_succ, pow_add]
    linear_combination hq + X ^ (8 * bs.length) * poly64_mul_X_pow_add_poly8 r b

theorem poly64_crcReg (r : Word) (S : List Byte) :
    poly64 (crcReg r S) = (poly64 r * X ^ (8 * S.length) + msgPoly S * X ^ 64) %ₘ genPoly := by
  obtain ⟨q, hq⟩ := exists_quotient_crcReg r S
  exact (divMod_genPoly_of_eq hq).2.symm

/-- The reference is linear over XOR for streams of one length. -/
theorem crcReg_xor (r r' : Word) {S S' : List Byte} (h : S.length = S'.length) :
    crcReg (r ^^^ r') (List.zipWith (· ^^^ ·) S S') = crcReg r S ^^^ crcReg r' S' := by
  induction S generalizing S' r r' with
  | nil => rw [List.eq_nil_of_length_eq_zero h.symm]; rfl
  | cons b bs ih =>
    cases S' with
    | nil => cases h
    | cons b' bs' =>
      rw [List.zipWith_cons_cons, crcReg_cons, crcReg_cons, crcReg_cons, crcByte_xor]
      exact ih _ _ (Nat.succ.inj h)

/-- Settles O51, by the division with remainder that the register carries out, and by linearity byte by byte. -/
theorem referencePolynomialLaw : Obligations.ReferencePolynomialLaw :=
  ⟨poly64_crcReg, fun r0 r1 _ _ => crcReg_xor r0 r1, crcReg_append⟩

/-! ### The fold and Barrett constants (R117 to R119) -/

/-- K_HI is x^63 after 128 shifts, x^191 (R117). -/
theorem kHi_eq_crcShifts : kHi = crcShifts 128 1 := by decide +kernel

/-- K_LO is x^63 after 64 shifts, x^127 (R118). -/
theorem kLo_eq_crcShifts : kLo = crcShifts 64 1 := by decide +kernel

/-- The bits of MU_R are those that 64 shifts send out of POLY_R (R119). -/
theorem muR_getLsbD : ∀ k < 64, muR.getLsbD k = (crcShifts k polyR).getLsbD 0 := by decide +kernel

theorem poly64_kHi : poly64 kHi = X ^ 191 %ₘ genPoly := by
  rw [kHi_eq_crcShifts, ← (X_pow_divMod_genPoly 128).2]

theorem poly64_kLo : poly64 kLo = X ^ 127 %ₘ genPoly := by
  rw [kLo_eq_crcShifts, ← (X_pow_divMod_genPoly 64).2]

/-- The quotient of x^128 by P: its x^64 comes from the shift that turns 1 into POLY_R, the rest is MU_R (R119). -/
theorem X_pow_128_divByMonic_genPoly : X ^ 128 /ₘ genPoly = X ^ 64 + poly64 muR := by
  have hrest : shiftQuotient 64 polyR = poly64 muR :=
    Finset.sum_congr rfl fun k hk => by rw [muR_getLsbD k (Finset.mem_range.mp hk)]
  have hfirst : crcShift 1 = polyR := by decide
  rw [(X_pow_divMod_genPoly 65).1, shiftQuotient_succ, hfirst, hrest, add_comm]
  rfl

/-- Settles O53: the constants are what the shifts of 1 leave and send out, and the normal forms are their reversals. -/
theorem foldConstantsFromPolynomial : Obligations.FoldConstantsFromPolynomial := by
  refine ⟨rfl, rfl, rfl, fun _ _ => rfl, genPoly_monic, poly64_kHi, ?_, poly64_kLo, ?_, ?_, ?_⟩
  · rw [← poly64_kHi, poly64_eq_polyNormal (v := kHi) (w := 0x042bc5d4bf823b57) (by decide)]
  · rw [← poly64_kLo, poly64_eq_polyNormal (v := kLo) (w := 0x358464a4786e9784) (by decide)]
  · rw [X_pow_128_divByMonic_genPoly, add_sub_cancel_left]
  · rw [X_pow_128_divByMonic_genPoly, poly64_eq_polyNormal (v := muR) (w := 0xddf3eeb298be6fc8) (by decide)]

/-! ### The ROMs (R115, R116, R122) -/

theorem tableGen_eq_crcReg (i : BitVec 8) : tableGen i = crcReg 0 [i] := by
  simp [tableGen, crcByte]

theorem tableGen_xor (a b : BitVec 8) : tableGen (a ^^^ b) = tableGen a ^^^ tableGen b := by
  rw [tableGen, BitVec.setWidth_xor, crcShifts_xor, tableGen, tableGen]

/-- Settles O54: the listing is the generator's (`romTable_eq_tableGen`), the generator is the reference after one byte
from 0, and the polynomial is R121's. -/
theorem tableEntriesFromPolynomial : Obligations.TableEntriesFromPolynomial := by
  intro i
  have hreg : romTable i = crcReg 0 [i] := (romTable_eq_tableGen i).trans (tableGen_eq_crcReg i)
  refine ⟨romTable_eq_tableGen i, hreg, ?_⟩
  rw [hreg, poly64_crcReg, msgPoly_cons, poly64_zero]
  simp [poly8]

/-- The check value is the checksum of "123456789" (R120). -/
theorem checkValue_eq : checkValue = crc64nvme [0x31, 0x32, 0x33, 0x34, 0x35, 0x36, 0x37, 0x38, 0x39] := by
  decide +kernel

/-- Settles O52: the listing by evaluation, POLY_R by its reversed bits, and INIT by what INIT writes to ACC. -/
theorem constantsRomContents : Obligations.ConstantsRomContents := by
  refine ⟨rfl, polyR_getLsbD, poly64_polyR, rfl, ?_, checkValue_eq, rfl⟩
  intro s t h
  obtain rfl : s.startDigest.respond (okay 0) = t := Host.Outcome.next.inj h
  simp

/-- Settles O55: the generator is linear, and the listing is the generator's. -/
theorem tableRomIsLinear : Obligations.TableRomIsLinear :=
  ⟨fun a b => by simp only [romTable_eq_tableGen, tableGen_xor], rfl, rfl⟩

end Sys2Proof.Machine

namespace Sys2Proof.Machine

open Polynomial

/-! ### The polynomial of a block (R12) -/

theorem coeff_bitTerm (b : Bool) (n m : Nat) : (bitTerm b n).coeff m = if b ∧ m = n then 1 else 0 := by
  cases b <;> simp [coeff_X_pow]

/-- Bit `k` is the coefficient of x^(127-k). -/
theorem coeff_poly128 (v : Block) {k : Nat} (hk : k < 128) :
    (poly128 v).coeff (127 - k) = if v.getLsbD k then 1 else 0 := by
  have hother (i : Nat) (hi : i < 128) (hne : i ≠ k) : (bitTerm (v.getLsbD i) (127 - i)).coeff (127 - k) = 0 := by
    rw [coeff_bitTerm, if_neg (by omega)]
  rw [poly128, finsetSum_coeff, Finset.sum_eq_single k (fun i hi => hother i (Finset.mem_range.mp hi))
    fun h => absurd (Finset.mem_range.mpr hk) h, coeff_bitTerm]
  simp only [and_true]

/-- The coefficients of a block's polynomial are its bits, so the polynomial determines the block. -/
theorem poly128_injective : Function.Injective poly128 := by
  intro v w h
  apply BitVec.eq_of_getLsbD_eq
  intro k hk
  have hcoeff := congrArg (·.coeff (127 - k)) h
  simp only [coeff_poly128 _ hk] at hcoeff
  cases hv : v.getLsbD k <;> cases hw : w.getLsbD k <;> simp_all

/-- The low half of a block has its high powers of x. -/
theorem poly128_eq_halves (f : Block) : poly128 f = poly64 (lowHalf f) * X ^ 64 + poly64 (highHalf f) := by
  have hlow (i : Nat) (hi : i < 64) :
      bitTerm (f.getLsbD i) (127 - i) = bitTerm ((lowHalf f).getLsbD i) (63 - i) * X ^ 64 := by
    rw [bitTerm_mul_X_pow, show 63 - i + 64 = 127 - i by omega]
    simp [lowHalf, hi]
  have hhigh (i : Nat) (hi : i < 64) :
      bitTerm (f.getLsbD (64 + i)) (127 - (64 + i)) = bitTerm ((highHalf f).getLsbD i) (63 - i) := by
    rw [show 127 - (64 + i) = 63 - i by omega]
    simp [highHalf, hi]
  rw [poly64, Finset.sum_mul, poly64, ← Finset.sum_congr rfl fun i hi => hlow i (Finset.mem_range.mp hi),
    ← Finset.sum_congr rfl fun i hi => hhigh i (Finset.mem_range.mp hi)]
  exact Finset.sum_range_add _ 64 64

/-- A word in the low half of a block stands for its polynomial times x^64, and each place it moves up divides by x. -/
theorem poly128_setWidth_shiftLeft (a : Word) {n : Nat} (hn : n ≤ 64) :
    poly128 (a.setWidth 128 <<< n) = poly64 a * X ^ (64 - n) := by
  have hbelow (i : Nat) (hi : i < n) : bitTerm ((a.setWidth 128 <<< n).getLsbD i) (127 - i) = 0 := by simp [hi]
  have hword (i : Nat) (hi : i < 64) :
      bitTerm ((a.setWidth 128 <<< n).getLsbD (n + i)) (127 - (n + i)) =
        bitTerm (a.getLsbD i) (63 - i) * X ^ (64 - n) := by
    rw [bitTerm_mul_X_pow, show 63 - i + (64 - n) = 127 - (n + i) by omega]
    simp [show n + i < 128 by omega]
  have habove (i : Nat) : bitTerm ((a.setWidth 128 <<< n).getLsbD (n + 64 + i)) (127 - (n + 64 + i)) = 0 := by
    simp [BitVec.getLsbD_of_ge a (n + 64 + i - n) (by omega)]
  have hsplit (g : Nat → GF2Poly) : ∑ i ∈ Finset.range 128, g i = ∑ i ∈ Finset.range n, g i +
      ∑ i ∈ Finset.range 64, g (n + i) + ∑ i ∈ Finset.range (64 - n), g (n + 64 + i) := by
    rw [← Finset.sum_range_add, ← Finset.sum_range_add, show n + 64 + (64 - n) = 128 by omega]
  rw [poly128, hsplit, Finset.sum_eq_zero fun i hi => hbelow i (Finset.mem_range.mp hi),
    Finset.sum_congr rfl fun i hi => hword i (Finset.mem_range.mp hi), Finset.sum_eq_zero fun i _ => habove i,
    zero_add, add_zero, poly64, Finset.sum_mul]

/-! ### The reflected product (R140, R141) -/

/-- Each round adds x times the first factor times one term of the second. -/
theorem poly128_clmulRounds (a b : Word) {n : Nat} (hn : n ≤ 64) :
    poly128 (clmulRounds a b n) = X * poly64 a * ∑ i ∈ Finset.range n, bitTerm (b.getLsbD i) (63 - i) := by
  induction n with
  | zero => rw [clmulRounds, poly128_zero, Finset.sum_range_zero, mul_zero]
  | succ n ih =>
    rw [clmulRounds, Finset.sum_range_succ, mul_add, ← ih (by omega)]
    cases b.getLsbD n
    · simp
    · rw [if_pos rfl, poly128_xor, poly128_setWidth_shiftLeft a (by omega), bitTerm_true,
        show 64 - n = 63 - n + 1 by omega, pow_succ]
      ring

theorem poly128_clmul64 (a b : Word) : poly128 (clmul64 a b) = X * poly64 a * poly64 b :=
  poly128_clmulRounds a b le_rfl

/-- Settles O42, round by round. -/
theorem reflectedProductLaw : Obligations.ReflectedProductLaw :=
  poly128_clmul64

theorem clmul64_comm (a b : Word) : clmul64 a b = clmul64 b a :=
  poly128_injective (by rw [poly128_clmul64, poly128_clmul64]; ring)

theorem clmul64_zero_left (b : Word) : clmul64 0 b = 0 :=
  poly128_injective (by rw [poly128_clmul64, poly64_zero, poly128_zero, mul_zero, zero_mul])

theorem clmul64_one_left (b : Word) : clmul64 1 b = b.setWidth 128 := by
  apply poly128_injective
  have hb : poly128 (b.setWidth 128) = poly64 b * X ^ 64 := by
    rw [← BitVec.shiftLeft_zero (b.setWidth 128), poly128_setWidth_shiftLeft b (Nat.zero_le 64)]
  rw [poly128_clmul64, poly64_one, hb]
  ring

/-- The product has a factor x, so its constant coefficient, bit 127, is 0. -/
theorem clmul64_getLsbD_127 (a b : Word) : (clmul64 a b).getLsbD 127 = false := by
  have hcoeff : (poly128 (clmul64 a b)).coeff (127 - 127) = 0 := by
    rw [poly128_clmul64, mul_assoc, Nat.sub_self, coeff_X_mul_zero]
  rw [coeff_poly128 _ (by omega)] at hcoeff
  exact Bool.eq_false_iff.mpr fun h => one_ne_zero ((if_pos h).symm.trans hcoeff)

/-! ### The bits of the product (R140) -/

/-- The XOR of `f 0 ... f (n-1)`. -/
def xorUpTo (f : Nat → Bool) (n : Nat) : Bool := (List.range n).foldl (fun c i => c ^^ f i) false

theorem xorUpTo_succ (f : Nat → Bool) (n : Nat) : xorUpTo f (n + 1) = (xorUpTo f n ^^ f n) := by
  simp [xorUpTo, List.range_succ]

theorem xorUpTo_congr {f g : Nat → Bool} {n : Nat} (h : ∀ i < n, f i = g i) : xorUpTo f n = xorUpTo g n := by
  induction n with
  | zero => rfl
  | succ n ih => rw [xorUpTo_succ, xorUpTo_succ, ih fun i hi => h i (by omega), h n n.lt_succ_self]

/-- Terms that are 0 add nothing. -/
theorem xorUpTo_add_of_false {f : Nat → Bool} {n : Nat} (h : ∀ i, n ≤ i → f i = false) (m : Nat) :
    xorUpTo f (n + m) = xorUpTo f n := by
  induction m with
  | zero => rfl
  | succ m ih => rw [← Nat.add_assoc, xorUpTo_succ, ih, h (n + m) (by omega), Bool.xor_false]

theorem clmulRounds_getLsbD (a b : Word) (n : Nat) {k : Nat} (hk : k < 128) :
    (clmulRounds a b n).getLsbD k = xorUpTo (fun i => b.getLsbD i && (decide (i ≤ k) && a.getLsbD (k - i))) n := by
  induction n with
  | zero => simp [clmulRounds, xorUpTo]
  | succ n ih =>
    rw [xorUpTo_succ, ← ih, clmulRounds]
    cases b.getLsbD n
    · simp
    · rw [if_pos rfl, BitVec.getLsbD_xor, BitVec.getLsbD_shiftLeft, BitVec.getLsbD_setWidth]
      by_cases h : n ≤ k
      · simp [hk, h, show k - n < 128 by omega]
      · simp [h, show k < n by omega]

/-- Coefficient `k` of the product: the terms beyond 64 and beyond `k` that the loop adds or leaves out are 0. -/
theorem clmul64_getLsbD (a b : Word) {k : Nat} (hk : k < 128) :
    (clmul64 a b).getLsbD k = xorUpTo (fun i => a.getLsbD i && b.getLsbD (k - i)) (k + 1) := by
  have hwidth (i : Nat) (hi : 64 ≤ i) : (a.getLsbD i && (decide (i ≤ k) && b.getLsbD (k - i))) = false := by
    rw [BitVec.getLsbD_of_ge a i hi, Bool.false_and]
  have hbeyond (i : Nat) (hi : k + 1 ≤ i) : (a.getLsbD i && (decide (i ≤ k) && b.getLsbD (k - i))) = false := by
    simp [show ¬ i ≤ k by omega]
  rw [clmul64_comm, clmul64, clmulRounds_getLsbD b a 64 hk, ← xorUpTo_add_of_false hwidth (k + 1), Nat.add_comm,
    xorUpTo_add_of_false hbeyond]
  exact xorUpTo_congr fun i hi => by simp [show i ≤ k by omega]

/-- Settles O41: the coefficients from the loop, the algebra from the reflected product law. -/
theorem clmulIsCarrylessProduct : Obligations.ClmulIsCarrylessProduct :=
  ⟨fun a b _ => clmul64_getLsbD a b, clmul64_zero_left, clmul64_one_left, clmul64_comm, clmul64_getLsbD_127,
    by decide, by decide, by decide⟩

/-! ### The folding engine (R144 to R150) -/

/-- FOLD_STEP with the ROM's words by their names. -/
theorem foldStep_eq (f v : Block) : foldStep f v = clmul64 (lowHalf f) kHi ^^^ clmul64 (highHalf f) kLo ^^^ v := rfl

/-- Settles O44: the corner cases are those of the products. -/
theorem foldStepFoldsOneBlock : Obligations.FoldStepFoldsOneBlock := by
  refine ⟨fun _ _ => rfl, fun v => ?_, ?_, ?_, fun f v => ?_, by decide⟩
  · rw [foldStep_eq, show lowHalf 0 = 0 from rfl, show highHalf 0 = 0 from rfl, clmul64_zero_left, clmul64_zero_left]
    simp
  · rw [foldStep_eq, show lowHalf 1 = 1 by decide, show highHalf 1 = 0 by decide, clmul64_one_left, clmul64_zero_left]
    simp
  · rw [foldStep_eq, show lowHalf 0x10000000000000000 = 0 by decide, show highHalf 0x10000000000000000 = 1 by decide,
      clmul64_one_left, clmul64_zero_left]
    simp
  · rw [foldStep_eq, BitVec.getLsbD_xor, BitVec.getLsbD_xor, clmul64_getLsbD_127, clmul64_getLsbD_127, Bool.false_xor,
      Bool.false_xor]

/-- Settles O45: K_HI and K_LO stand for x^191 and x^127 modulo P, and the product adds a factor x to each. -/
theorem foldLaw : Obligations.FoldLaw := by
  intro f v
  have hfold : poly128 (foldStep f v) =
      X * poly64 (lowHalf f) * poly64 kHi + X * poly64 (highHalf f) * poly64 kLo + poly128 v := by
    rw [foldStep_eq, poly128_xor, poly128_xor, poly128_clmul64, poly128_clmul64]
  have hHi : poly64 kHi + genPoly * (X ^ 191 /ₘ genPoly) = X ^ 191 := by rw [poly64_kHi, modByMonic_add_div]
  have hLo : poly64 kLo + genPoly * (X ^ 127 /ₘ genPoly) = X ^ 127 := by rw [poly64_kLo, modByMonic_add_div]
  refine modByMonic_eq_of_dvd_sub genPoly_monic
    ⟨-(X * poly64 (lowHalf f) * (X ^ 191 /ₘ genPoly) + X * poly64 (highHalf f) * (X ^ 127 /ₘ genPoly)), ?_⟩
  rw [hfold, poly128_eq_halves f]
  linear_combination X * poly64 (lowHalf f) * hHi + X * poly64 (highHalf f) * hLo

/-- REDUCE divides by P: 64 shifts on the low half, and 64 more on what they leave together with the high half. -/
theorem poly64_reduce (f : Block) : poly64 (reduce f) = (poly128 f * X ^ 64) %ₘ genPoly := by
  have hhalf : X ^ 64 * poly64 (lowHalf f) + poly64 (highHalf f) =
      poly64 (halfReduce f) + genPoly * shiftQuotient 64 (lowHalf f) := by
    rw [halfReduce, poly64_xor, X_pow_mul_poly64]; ring
  have hreduce : X ^ 64 * poly64 (halfReduce f) = poly64 (reduce f) + genPoly * shiftQuotient 64 (halfReduce f) := by
    rw [reduce_eq_crcShifts, X_pow_mul_poly64]
  refine (divMod_genPoly_of_eq (q := shiftQuotient 64 (lowHalf f) * X ^ 64 + shiftQuotient 64 (halfReduce f)) ?_).2.symm
  rw [poly128_eq_halves]
  linear_combination X ^ 64 * hhalf + hreduce

/-- With ACC = 0 a block enters as it is. -/
theorem absorb_zero (v : Block) : absorb v 0 = v := by simp [absorb]

/-- Settles O47: by the division with remainder, and by absorbing into the register 0. -/
theorem reduceLaw : Obligations.ReduceLaw :=
  ⟨poly64_reduce, fun f => (congrArg reduce (absorb_zero f)).symm.trans (reduce_absorb f 0)⟩

/-- Settles O49, by REDUCE as the remaining shifts of the fold register (`reduce_eq_crcShifts`). -/
theorem absorbLaw : Obligations.AbsorbLaw :=
  reduce_absorb

theorem crcReg_blocksBytes_cons (r : Word) (v : Block) (vs : List Block) :
    crcReg r (blocksBytes (v :: vs)) = crcReg (crcReg r (blockBytes v)) (blocksBytes vs) := by
  rw [blocksBytes, List.flatMap_cons, crcReg_append, blocksBytes]

/-- Folding blocks is feeding their bytes (R150), by induction on the number of blocks. -/
theorem reduce_foldBlocks (f : Block) (vs : List Block) :
    reduce (foldBlocks f vs) = crcReg (reduce f) (blocksBytes vs) := by
  induction vs generalizing f with
  | nil => rfl
  | cons v vs ih =>
    rw [crcReg_blocksBytes_cons, ← reduce_foldStep, ← ih]
    rfl

/-- Settles O50: the first block by the absorb law, the others by folding, the tail by the tail-step law. -/
theorem blockPathLaw : Obligations.BlockPathLaw := by
  intro r0 v vs T
  have hblocks : reduce (foldBlocks (absorb v r0) vs) = crcReg r0 (blocksBytes (v :: vs)) := by
    rw [reduce_foldBlocks, reduce_absorb, crcReg_blocksBytes_cons]
  exact ⟨hblocks, by rw [tailSteps_eq_crcReg, hblocks, crcReg_append]⟩

/-! ### The tail processor and the first block (R142, R143, R148) -/

/-- Settles O48: the table entry is eight shifts of the low byte, and the chain goes byte by byte. -/
theorem tailStepLaw : Obligations.TailStepLaw :=
  ⟨tailStep_eq_crcByte, tailSteps_eq_crcReg⟩

/-- Accumulators with one low byte read one table entry, so their results differ only by what is shifted. -/
theorem tailStep_xor_of_low_eq {acc acc' : Word} (b : Byte) (h : acc.extractLsb' 0 8 = acc'.extractLsb' 0 8) :
    tailStep acc b ^^^ tailStep acc' b = (acc >>> 8) ^^^ (acc' >>> 8) := by
  have hidx : (acc ^^^ b.setWidth 64).extractLsb' 0 8 = (acc' ^^^ b.setWidth 64).extractLsb' 0 8 := by
    rw [BitVec.extractLsb'_xor, h, BitVec.extractLsb'_xor]
  rw [tailStep, tailStep, hidx]
  generalize romTable _ = t
  rw [BitVec.xor_comm t, BitVec.xor_assoc, ← BitVec.xor_assoc t, BitVec.xor_self, BitVec.zero_xor]

/-- Settles O43: the index takes the low byte alone, and INIT, all ones, inverts the low half of the block. -/
theorem tailStepAndAbsorb : Obligations.TailStepAndAbsorb := by
  refine ⟨fun _ _ => rfl, by decide, by decide, by decide, fun _ _ b => tailStep_xor_of_low_eq b, by decide,
    fun _ _ => rfl, fun v => ⟨?_, ?_⟩, by decide⟩
  · rw [absorb, lowHalf_xor, lowHalf_setWidth, show initReg = BitVec.allOnes 64 from rfl, BitVec.xor_allOnes]
  · rw [absorb, highHalf_xor, highHalf_setWidth]; exact BitVec.xor_zero

end Sys2Proof.Machine

namespace Sys2Proof.Machine

/-- Settles O57: `run_digest`, the step lemma of R34 carried through the run between INIT and FINALIZE. -/
theorem chunkBoundaryIndependence : Obligations.ChunkBoundaryIndependence :=
  fun _ _ _ hkeeps hpending => run_digest hkeeps hpending

/-! ### The byte step and UPDATE (R174, R175) -/

/-- A complete block leaves the tail empty and FOLD valid. -/
theorem State.takeBlock_eq (s : State) (v : Block) : s.takeBlock v =
    { s with tail := [], fold := if s.fv then foldStep s.fold v else absorb v s.acc, fv := true } := by
  cases h : s.fv <;> simp [State.takeBlock, h]

/-- Settles O30: PUSH below and at a full tail; the block's lanes are the bytes of the tail and the new one. -/
theorem pushTakesOneByte : Obligations.PushTakesOneByte := by
  refine fun s b => ⟨fun h => s.push_of_short b (by omega), fun h => ?_⟩
  refine ⟨packLanes 128 (s.tail ++ [b]), fun k hk => packLanes_lane _ k (by omega), fun hfv => ?_, fun hfv => ?_⟩ <;>
    simp [State.push_of_full s b h, State.takeBlock_eq, State.appendByte, hfv]

/-- `s` with `bs` appended to the tail and counted. -/
def State.appendBytes (s : State) (bs : List Byte) : State :=
  { s with tail := s.tail ++ bs, count := s.count + BitVec.ofNat 64 bs.length }

theorem State.appendBytes_cons (s : State) (b : Byte) (bs : List Byte) :
    s.appendBytes (b :: bs) = (s.appendByte b).appendBytes bs := by
  have hcount : s.count + BitVec.ofNat 64 (bs.length + 1) = s.count + 1 + BitVec.ofNat 64 bs.length := by
    rw [Nat.add_comm, BitVec.ofNat_add, BitVec.add_assoc]
    rfl
  simp [State.appendBytes, State.appendByte, hcount]

/-- Bytes that leave the tail short of a block are only appended and counted. -/
theorem State.pushAll_of_short {s : State} {bs : List Byte} (h : (s.tail ++ bs).length < 16) :
    s.pushAll bs = s.appendBytes bs := by
  induction bs generalizing s with
  | nil => simp [State.appendBytes]
  | cons b bs ih =>
    have hroom : s.tailLen ≠ 15 := by rw [List.length_append, List.length_cons] at h; rw [State.tailLen]; omega
    rw [State.pushAll_cons, State.push_of_short s b hroom, State.appendBytes_cons, ih (by simpa using h)]

/-- Bytes that complete one block hand the first 16 to the folding engine and leave the others in the tail. -/
theorem State.pushAll_of_full {s : State} {bs : List Byte} (hs : s.tailLen ≤ 15) (hbs : bs.length ≤ 16)
    (h : 16 ≤ (s.tail ++ bs).length) : s.pushAll bs =
      { (s.appendBytes bs).takeBlock (packLanes 128 ((s.tail ++ bs).take 16)) with
        tail := (s.tail ++ bs).drop 16 } := by
  induction bs generalizing s with
  | nil => rw [List.append_nil] at h; exact absurd (hs.trans_lt' h) (lt_irrefl 15)
  | cons b bs ih =>
    rw [List.length_cons] at hbs
    have hsplit : s.tail ++ b :: bs = (s.tail ++ [b]) ++ bs := by simp
    rw [State.pushAll_cons, State.appendBytes_cons, hsplit]
    by_cases hfull : s.tailLen = 15
    · have hblock : (s.tail ++ [b]).length = 16 := by simpa [State.tailLen] using hfull
      rw [State.push_of_full s b hfull, State.pushAll_of_short (by simp; omega), List.take_left' hblock,
        List.drop_left' hblock, State.takeBlock_eq, State.takeBlock_eq]
      rfl
    · rw [State.push_of_short s b hfull]
      exact ih (by rw [State.appendByte_tailLen]; omega) (by omega) (by simpa using h)

/-- STATE_UPDATE_AFTER_FINAL is recorded with its code and OKAY (R213, R214). -/
theorem State.raiseCmdError_eq_refusedUpdate (s : State) :
    s.raiseCmdError .stateUpdateAfterFinal = s.refusedUpdate := by
  simp [State.raiseCmdError, State.recordError, State.respond, State.refusedUpdate, okay, ErrCode.setsErrCmd,
    ErrCode.setsErrState, ErrCode.setsErrBus, ErrCode.code]

/-- UPDATE after FINALIZE is refused whatever its byte count is (R178). -/
theorem exec_update_of_finalized {n : BitVec 5} {s : State} (h : n.toNat ≤ 16) (hphase : s.phase = .finalized) :
    exec (.update n) s = .next s.refusedUpdate :=
  (execUpdate_of_finalized h hphase).trans (congrArg _ s.raiseCmdError_eq_refusedUpdate)

/-- Settles O29: the staged bytes stay short of a block or complete one, and the refusals by their code. -/
theorem updateConsumesStagedBytes : Obligations.UpdateConsumesStagedBytes := by
  refine ⟨fun n s hn hphase hs => ?_, fun n s => exec_update_of_finalized, fun n s hn => ?_, fun w s hop hrsvd => ?_⟩
  · have hexec := execUpdate_of_opened hn hphase
    have hcount : n.setWidth 64 = BitVec.ofNat 64 (s.stagedBytes n.toNat).length := by
      rw [State.stagedBytes_length, BitVec.ofNat_toNat]
    rw [hcount]
    refine ⟨fun hshort => hexec.trans ?_, fun hfull => hexec.trans ?_⟩
    · rw [State.pushAll_of_short (bs := s.stagedBytes n.toNat) hshort]
      rfl
    · rw [State.pushAll_of_full (bs := s.stagedBytes n.toNat) hs (by rwa [State.stagedBytes_length]) hfull,
        State.takeBlock_eq]
      rfl
  · exact (execUpdate_of_long s hn).trans (congrArg _ (State.raiseCmdError_eq_refusedCommand (.inr (.inr rfl)) s))
  · have hop : opField w = 2 := hop
    exact exec_wrCmd_error (decodeCommandWord_of_reserved (by rw [hop]; decide) (.inl hrsvd)) s

/-! ### Commands without operands (R170, R172, R177, R178, R179) -/

/-- A command other than UPDATE has no operand: any bit set above its OP is CMD_RSVD (R86). -/
theorem exec_wrCmd_of_operandBits {w : Word} {op : Byte} (hop : opField w = op) (hlegal : op.toNat ≤ 4 ∧ op ≠ 2)
    (hbits : w.extractLsb' 8 56 ≠ 0) (s : State) : exec (.wrCmd w) s = .next (s.refusedCommand 2) := by
  subst hop
  refine exec_wrCmd_error (e := .cmdRsvd) (decodeCommandWord_of_reserved hlegal.1 ?_) s
  by_contra hzero
  push Not at hzero
  obtain ⟨hrsvd, hlen⟩ := hzero
  have hw := toNat_eq_of_fields w
  rw [hrsvd, hlen hlegal.2] at hw
  refine hbits (BitVec.eq_of_toNat_eq ?_)
  have hop := (opField w).isLt
  simp [Nat.shiftRight_eq_div_pow] at hw ⊢
  omega

/-- Settles O27: NOP only answers, and a NOP word has no operand bits. -/
theorem nopChangesNothing : Obligations.NopChangesNothing :=
  ⟨fun _ => rfl, fun _ s hop hbits => exec_wrCmd_of_operandBits hop (by decide) hbits s⟩

/-- Settles O28: INIT's next state does not depend on the digest it replaces. -/
theorem initStartsNewDigest : Obligations.InitStartsNewDigest := by
  refine ⟨fun _ => rfl, fun s t h => ?_, fun _ s hop hbits => exec_wrCmd_of_operandBits hop (by decide) hbits s⟩
  cases h
  rfl

/-- FINALIZE's first step empties FOLD into ACC, and leaves both when FOLD holds nothing. -/
theorem State.reduceFold_eq (s : State) : s.reduceFold =
    { s with
      acc := if s.fv then reduce s.fold else s.acc
      fold := if s.fv then 0 else s.fold
      fv := false } := by
  obtain ⟨phase, acc, fold, fv⟩ := s
  cases fv <;> rfl

/-- Settles O31: the three steps of FINALIZE, field by field. -/
theorem finalizeClosesDigest : Obligations.FinalizeClosesDigest := by
  refine ⟨fun s hphase => (execFinalize_of_opened hphase).trans ?_, fun s => execFinalize_of_finalized,
    fun _ s hop hbits => exec_wrCmd_of_operandBits hop (by decide) hbits s⟩
  rw [State.reduceFold_eq]
  rfl

/-- Settles O32: UPDATE's second check and FINALIZE's idempotence need the state, the other forms do not. -/
theorem finalizedStateBehaviour : Obligations.FinalizedStateBehaviour :=
  ⟨fun _ h => ⟨execFinalize_of_finalized h, rfl, fun _ hn => exec_update_of_finalized hn h, _, rfl, rfl, rfl⟩,
    fun _ => rfl, fun _ => rfl, fun i s hi => ⟨readWord s i, exec_of_isRead hi s⟩⟩

/-- Settles O33: CLRERR only clears the record, and a CLRERR word has no operand bits. -/
theorem clrerrClearsErrorRecord : Obligations.ClrerrClearsErrorRecord :=
  ⟨fun _ => rfl, fun _ s hop hbits => exec_wrCmd_of_operandBits hop (by decide) hbits s⟩

/-! ### Access forms (R181 to R183) -/

/-- Settles O18: the two writes by their meaning, and the size check of the bus. -/
theorem writeDataStagesItsValue : Obligations.WriteDataStagesItsValue :=
  ⟨fun _ _ => rfl, fun _ _ => rfl, fun _ _ _ h _ _ hsize => step_of_misaligned h (.inl hsize)⟩

/-- Settles O19: an accepted word runs its command, which answers OKAY once. -/
theorem writeCmdExecutesItsWord : Obligations.WriteCmdExecutesItsWord := by
  refine ⟨fun w s c hdec => ?_, fun w s e hdec => ?_, fun _ _ _ h _ _ hsize => step_of_misaligned h (.inl hsize)⟩
  · obtain ⟨u, hrun, -, hresponses⟩ := execCommand_answers c s
    exact ⟨_, (execWrCmd_ok w s c hdec).trans hrun, (execCommand_eq_exec c s).symm.trans hrun,
      by rw [State.respond_responses, hresponses]; rfl⟩
  · have hcode : 1 ≤ e.code.toNat ∧ e.code.toNat ≤ 3 := by
      rcases decodeCommandWord_error w e hdec with rfl | rfl | rfl <;> decide
    exact ⟨hcode.1, hcode.2, exec_wrCmd_error hdec s⟩

/-- CMD has no read form (R55). -/
theorem decodeAccess_readCmd {a : Access} (hdir : a.dir = .read) (hsize : a.size = 8) (hoff : a.off = offsetOf .cmd) :
    decodeAccess a = .error .busDir := by
  simp [decodeAccess, hdir, hsize, hoff, offsetOf_aligned, decodeOffset_offsetOf, readForm]

/-- Settles O20: each read form answers `readWord`, and only RESULT depends on the state of the digest. -/
theorem registerReadsAnswerTheValue : Obligations.RegisterReadsAnswerTheValue := by
  refine ⟨fun s => ?_, fun s a rest h hdir => ⟨step_of_misaligned h, fun hsize hoff =>
    step_of_refused_eq_refusedOnBus h (decodeAccess_readCmd hdir hsize hoff)⟩⟩
  have hresult : s.result = if s.phase = .finalized then s.acc else 0 := by
    cases h : s.phase <;> simp [State.result, h]
  rw [← hresult]
  exact ⟨rfl, rfl, rfl, rfl, rfl, rfl, rfl, rfl, rfl, rfl, rfl⟩

/-! ### The reference register loses nothing (R110, R185) -/

/-- The bit that leaves a shift is told by POLY_R's top bit, and the others only move. -/
theorem crcShift_injective : Function.Injective crcShift := by
  have htop (r : Word) : (crcShift r).getLsbD 63 = r.getLsbD 0 := by
    have hmoved : (r >>> 1).getLsbD 63 = false := by simp
    have hpoly : polyR.getLsbD 63 = true := by decide
    cases h : r.getLsbD 0
    · rw [crcShift, h, if_neg Bool.false_ne_true, hmoved]
    · rw [crcShift, if_pos h, BitVec.getLsbD_xor, hmoved, hpoly]
      rfl
  intro r r' h
  have hlow : r.getLsbD 0 = r'.getLsbD 0 := by rw [← htop, ← htop, h]
  have hrest : r >>> 1 = r' >>> 1 := by
    simp only [crcShift, hlow] at h
    split at h
    · exact (BitVec.xor_left_inj _).mp h
    · exact h
  apply BitVec.eq_of_getLsbD_eq
  intro i _
  cases i with
  | zero => exact hlow
  | succ i => simpa [Nat.add_comm] using congrArg (·.getLsbD i) hrest

theorem crcShifts_injective (n : Nat) : Function.Injective (crcShifts n) := by
  induction n with
  | zero => exact Function.injective_id
  | succ n ih => exact ih.comp crcShift_injective

/-- No byte string leads two registers to one. -/
theorem crcReg_injective (bs : List Byte) : Function.Injective (crcReg · bs) := by
  induction bs with
  | nil => exact Function.injective_id
  | cons b bs ih => exact fun r r' h => (BitVec.xor_left_inj _).mp (crcShifts_injective 8 (ih h))

theorem crcByte_injective (r : Word) : Function.Injective (crcByte r) := by
  intro b b' h
  have hwide := (BitVec.xor_right_inj _).mp (crcShifts_injective 8 h)
  simpa using congrArg (·.setWidth 8) hwide

/-- The register tells the byte at any one position. -/
theorem crcReg_set_injective (r : Word) {S : List Byte} {k : Nat} (hk : k < S.length) :
    Function.Injective fun b => crcReg r (S.set k b) := by
  intro b b' h
  simp only [List.set_eq_take_append_cons_drop, if_pos hk, crcReg_append, crcReg_cons] at h
  exact crcByte_injective _ (crcReg_injective _ h)

/-- Settles O59: a flipped bit is another byte at its position. -/
theorem singleBitChangeIsDetected : Obligations.SingleBitChangeIsDetected := by
  intro S k j hk hj h
  have hset : S.set k (S.getD k 0) = S := by simp [hk]
  have hcrc : crcReg initReg (S.set k (S.getD k 0 ^^^ (1#8 <<< j))) = crcReg initReg (S.set k (S.getD k 0)) := by
    rw [hset]
    exact (BitVec.xor_left_inj _).mp h
  have hbyte := crcReg_set_injective initReg hk hcrc
  have hbit := congrArg (·.getLsbD j) hbyte
  simp [hj] at hbit

end Sys2Proof.Machine

namespace Sys2Proof.Machine

/-! ### What recording an error sets (R213) -/

section
variable {e : ErrCode} (s : State)

theorem State.recordError_of_commandCode (h : 1 ≤ e.code.toNat ∧ e.code.toNat ≤ 3) :
    s.recordError e = { s with errCmd := true, lastErr := e.code } := by
  cases e with
  | cmdOpcode | cmdRsvd | cmdLen =>
    simp [State.recordError, ErrCode.setsErrCmd, ErrCode.setsErrState, ErrCode.setsErrBus]
  | _ => exact absurd h (by decide)

theorem State.recordError_of_stateCode (h : e.code.toNat = 4) :
    s.recordError e = { s with errState := true, lastErr := e.code } := by
  cases e with
  | stateUpdateAfterFinal =>
    simp [State.recordError, ErrCode.setsErrCmd, ErrCode.setsErrState, ErrCode.setsErrBus]
  | _ => exact absurd h (by decide)

theorem State.recordError_of_busCode (h : 5 ≤ e.code.toNat ∧ e.code.toNat ≤ 7) :
    s.recordError e = { s with errBus := true, lastErr := e.code } := by
  cases e with
  | busAlign | busUnmapped | busDir =>
    simp [State.recordError, ErrCode.setsErrCmd, ErrCode.setsErrState, ErrCode.setsErrBus]
  | _ => exact absurd h (by decide)

end

theorem errCode_bounds (e : ErrCode) : 1 ≤ e.code.toNat ∧ e.code.toNat ≤ 7 := by
  cases e <;> decide

/-- Settles O16: the three ways to raise an error run `recordError` and answer; its effect by the class of the code. -/
theorem recordErrorIsPrecise : Obligations.RecordErrorIsPrecise :=
  ⟨fun _ _ _ _ hp hdec => step_of_refused hp hdec, fun w s e hdec => execWrCmd_error w s e hdec,
    fun _ _ hn hphase => execUpdate_of_finalized hn hphase,
    fun s e => ⟨s.recordError_of_commandCode, s.recordError_of_stateCode, s.recordError_of_busCode,
      errCode_bounds e⟩⟩

/-! ### What becomes of the error record (R215) -/

/-- `t` holds the error record of `s`. -/
def State.SameErrors (s t : State) : Prop :=
  t.errCmd = s.errCmd ∧ t.errState = s.errState ∧ t.errBus = s.errBus ∧ t.lastErr = s.lastErr

theorem State.SameErrors.refl (s : State) : s.SameErrors s := ⟨rfl, rfl, rfl, rfl⟩

/-- A command clears the error record, keeps it, or is an UPDATE that its length or STATE refuses. -/
theorem execCommand_errors {c : Command} {s t : State} (h : execCommand c s = .next t) :
    (c = .clrerr ∧ s.clearErrors.SameErrors t) ∨ (c ≠ .clrerr ∧ s.SameErrors t) ∨
    (∃ n e, c = .update n ∧ (16 < n.toNat ∨ s.phase = .finalized) ∧ (s.recordError e).SameErrors t) := by
  cases c with
  | clrerr => cases h; exact .inl ⟨rfl, .refl _⟩
  | nop | init => cases h; exact .inr (.inl ⟨nofun, .refl _⟩)
  | finalize =>
    refine .inr (.inl ⟨nofun, ?_⟩)
    cases hphase : s.phase with
    | opened => cases (execFinalize_of_opened hphase).symm.trans h; simp [State.SameErrors]
    | finalized => cases (execFinalize_of_finalized hphase).symm.trans h; exact .refl s
  | update n =>
    rcases Nat.lt_or_ge 16 n.toNat with hlong | hlen
    · cases (execUpdate_of_long s hlong).symm.trans h
      exact .inr (.inr ⟨n, _, rfl, .inl hlong, .refl _⟩)
    · cases hphase : s.phase with
      | finalized =>
        cases (execUpdate_of_finalized hlen hphase).symm.trans h
        exact .inr (.inr ⟨n, _, rfl, .inr rfl, .refl _⟩)
      | opened =>
        cases (execUpdate_of_opened hlen hphase).symm.trans h
        exact .inr (.inl ⟨nofun, by simp [State.SameErrors]⟩)

/-- An instruction other than CLRERR keeps the error record or records one error. -/
theorem exec_keeps_or_records {i : Instr} {s t : State} (hi : i.runs ≠ some .clrerr) (h : exec i s = .next t) :
    s.SameErrors t ∨ ∃ e, (s.recordError e).SameErrors t := by
  rcases exec_kinds i with ⟨c, hc, hrun⟩ | ⟨-, -, hread⟩ | ⟨-, w, e, -, -, herr⟩ | ⟨-, v, rfl⟩ | ⟨-, v, rfl⟩
  · rcases execCommand_errors ((hrun s).symm.trans h) with ⟨rfl, -⟩ | ⟨-, hsame⟩ | ⟨n, e, -, -, hrec⟩
    · exact absurd hc hi
    · exact .inl hsame
    · exact .inr ⟨e, hrec⟩
  · cases (hread s).symm.trans h; exact .inl (.refl s)
  · cases (herr s).symm.trans h; exact .inr ⟨e, .refl _⟩
  · cases h; exact .inl (.refl s)
  · cases h; exact .inl (.refl s)

/-- So does a step on any access but CLRERR. -/
theorem step_keeps_or_records {s t : State} {a : Access} {rest : List HostEvent} (hp : s.pending = .access a :: rest)
    (hcmd : a.command ≠ some .clrerr) (h : step s = .next t) :
    s.SameErrors t ∨ ∃ e, (s.recordError e).SameErrors t := by
  cases hdec : decodeAccess a with
  | error e =>
    cases (step_of_refused hp hdec).symm.trans h
    exact .inr ⟨e, .refl _⟩
  | ok i =>
    rw [command_of_decoded hdec] at hcmd
    exact exec_keeps_or_records (s := { s with pending := rest }) hcmd ((step_of_decoded hp hdec).symm.trans h)

/-- An access that carries a command runs it. -/
theorem step_of_accessCommand {s : State} {a : Access} {c : Command} {rest : List HostEvent}
    (hp : s.pending = .access a :: rest) (hcmd : a.command = some c) :
    step s = execCommand c { s with pending := rest } := by
  cases hdec : decodeAccess a with
  | error e => rw [command_of_refused hdec] at hcmd; cases hcmd
  | ok i =>
    rw [command_of_decoded hdec] at hcmd
    rw [step_of_decoded hp hdec]
    rcases exec_kinds i with ⟨c', hc, hrun⟩ | ⟨hnone, -⟩ | ⟨hnone, -⟩ | ⟨hnone, -⟩ | ⟨hnone, -⟩
    · obtain rfl : c' = c := Option.some_injective _ (hc.symm.trans hcmd)
      exact hrun _
    all_goals rw [hcmd] at hnone; cases hnone

/-! ### The error record blocks nothing (R215) -/

/-- `s` with the error record of `r`. -/
def State.withErrors (s r : State) : State :=
  { s with errCmd := r.errCmd, errState := r.errState, errBus := r.errBus, lastErr := r.lastErr }

theorem State.push_withErrors (s r : State) (b : Byte) : (s.withErrors r).push b = (s.push b).withErrors r := by
  by_cases h : s.tailLen = 15
  · rw [State.push_of_full s b h, State.push_of_full (s.withErrors r) b h, State.takeBlock_eq, State.takeBlock_eq]; rfl
  · rw [State.push_of_short s b h, State.push_of_short (s.withErrors r) b h]; rfl

theorem State.pushAll_withErrors (s r : State) (bs : List Byte) :
    (s.withErrors r).pushAll bs = (s.pushAll bs).withErrors r :=
  List.foldl_hom (State.withErrors · r) fun u b => u.push_withErrors r b

/-- A command does the same whatever the error record holds. -/
theorem execCommand_withErrors (c : Command) (s r : State) :
    ∃ t r', execCommand c s = .next t ∧ execCommand c (s.withErrors r) = .next (t.withErrors r') := by
  cases c with
  | nop | init => exact ⟨_, r, rfl, rfl⟩
  | clrerr => exact ⟨_, r.clearErrors, rfl, rfl⟩
  | update n =>
    rcases Nat.lt_or_ge 16 n.toNat with hlong | hlen
    · exact ⟨_, r.recordError .cmdLen, execUpdate_of_long s hlong, execUpdate_of_long _ hlong⟩
    · cases hphase : s.phase with
      | finalized =>
        exact ⟨_, r.recordError .stateUpdateAfterFinal, execUpdate_of_finalized hlen hphase,
          execUpdate_of_finalized (s := s.withErrors r) hlen hphase⟩
      | opened =>
        refine ⟨_, r, execUpdate_of_opened hlen hphase,
          (execUpdate_of_opened (s := s.withErrors r) hlen hphase).trans ?_⟩
        exact congrArg (fun t => Host.Outcome.next (t.respond (okay 0))) (s.pushAll_withErrors r _)
  | finalize =>
    cases hphase : s.phase with
    | finalized =>
      exact ⟨_, r, execFinalize_of_finalized hphase, execFinalize_of_finalized (s := s.withErrors r) hphase⟩
    | opened =>
      refine ⟨_, r, execFinalize_of_opened hphase, (execFinalize_of_opened (s := s.withErrors r) hphase).trans ?_⟩
      rw [State.reduceFold_eq, State.reduceFold_eq]
      rfl

/-- No read but RD.STATUS answers the error record. -/
theorem readWord_withErrors {i : Instr} (hi : i ≠ .rdStatus) (s r : State) :
    readWord (s.withErrors r) i = readWord s i := by
  cases i with
  | rdStatus => exact absurd rfl hi
  | _ => rfl

/-- Every instruction but RD.STATUS does the same whatever the error record holds. -/
theorem exec_withErrors {i : Instr} (hi : i ≠ .rdStatus) (s r : State) :
    ∃ t r', exec i s = .next t ∧ exec i (s.withErrors r) = .next (t.withErrors r') := by
  rcases exec_kinds i with ⟨c, -, hrun⟩ | ⟨-, -, hread⟩ | ⟨-, w, e, -, -, herr⟩ | ⟨-, v, rfl⟩ | ⟨-, v, rfl⟩
  · rw [hrun, hrun]; exact execCommand_withErrors c s r
  · exact ⟨_, r, hread s, (hread _).trans (by rw [readWord_withErrors hi]; rfl)⟩
  · exact ⟨_, r.recordError e, herr s, herr _⟩
  · exact ⟨_, r, rfl, rfl⟩
  · exact ⟨_, r, rfl, rfl⟩

/-- Settles O17: `step_keeps_or_records` while the record stands, CLRERR and reset at its end, and `exec_withErrors`. -/
theorem errorRecordAccumulates : Obligations.ErrorRecordAccumulates := by
  refine ⟨fun s t a rest hp hcmd h => step_keeps_or_records hp hcmd h, fun s rest hp => ?_,
    fun i s t t' c st b l hi h h' => ?_⟩
  · rcases hp with ⟨a, hp, hcmd⟩ | ⟨q, hp⟩
    · exact ⟨_, step_of_accessCommand hp hcmd, rfl, rfl, rfl, rfl⟩
    · exact ⟨_, step_of_reset hp, rfl, rfl, rfl, rfl⟩
  · obtain ⟨u, r', hu, hu'⟩ :=
      exec_withErrors hi s { s with errCmd := c, errState := st, errBus := b, lastErr := l }
    cases hu.symm.trans h
    cases hu'.symm.trans h'
    rfl

/-! ### Which check an access fails first (R55, R56, R212) -/

/-- The offset lies between the registers and the constants ROM, or between the two ROMs (R64). -/
def Unmapped (off : Offset) : Prop :=
  (0x060 ≤ off.toNat ∧ off.toNat ≤ 0x3F8) ∨ (0x440 ≤ off.toNat ∧ off.toNat ≤ 0x7F8)

/-- Those are the multiples of 8 without a register. -/
theorem decodeOffset_eq_none_iff {off : Offset} (halign : off.toNat % 8 = 0) :
    decodeOffset off = none ↔ Unmapped off := by
  have hlt := off.isLt
  unfold decodeOffset Unmapped
  generalize off.toNat = k at *
  split
  case h_13 =>
    simp only [imp_false] at *
    split_ifs
    · simp only [false_iff]; omega
    · simp only [false_iff]; omega
    · simp only [true_iff]; omega
  all_goals simp

/-- Every other multiple of 8 is the offset of a register. -/
theorem exists_offsetOf {off : Offset} (halign : off.toNat % 8 = 0) (hmapped : ¬Unmapped off) :
    ∃ r, off = offsetOf r := by
  obtain ⟨r, hr⟩ := Option.ne_none_iff_exists'.mp (mt (decodeOffset_eq_none_iff halign).mp hmapped)
  exact ⟨r, offsetOf_of_decodeOffset halign hr⟩

/-- The registers that take a write (R55). -/
theorem offsetOf_of_writeForm {r : RegName} {v : Word} {i : Instr} (h : writeForm r v = some i) :
    offsetOf r = 0x008 ∨ offsetOf r = 0x018 ∨ offsetOf r = 0x020 := by
  cases r <;> simp_all [writeForm, offsetOf]

/-- Every register but CMD takes a read (R55). -/
theorem exists_readForm_of_offset {r : RegName} (h : offsetOf r ≠ 0x008) : ∃ i, readForm r = some i := by
  cases r with
  | cmd => exact absurd rfl h
  | _ => exact ⟨_, rfl⟩

section
variable {a : Access} (hsize : a.size = 8)
include hsize

theorem decodeAccess_of_unmapped (halign : a.off.toNat % 8 = 0) (h : Unmapped a.off) :
    decodeAccess a = .error .busUnmapped := by
  simp [decodeAccess, hsize, halign, (decodeOffset_eq_none_iff halign).mpr h]

/-- A write of a register without a write form. -/
theorem decodeAccess_of_readOnly {r : RegName} (hoff : a.off = offsetOf r) (hdir : a.dir = .write)
    (hform : writeForm r a.wdata = none) : decodeAccess a = .error .busDir := by
  simp [decodeAccess, hsize, hoff, offsetOf_aligned, decodeOffset_offsetOf, hdir, hform]

theorem decodeAccess_of_write {r : RegName} {i : Instr} (hoff : a.off = offsetOf r) (hdir : a.dir = .write)
    (hform : writeForm r a.wdata = some i) : decodeAccess a = .ok i :=
  (decodeAccess_ok_iff a i).mpr ⟨hsize, r, hoff, .inr ⟨hdir, hform⟩⟩

theorem decodeAccess_of_read {r : RegName} {i : Instr} (hoff : a.off = offsetOf r) (hdir : a.dir = .read)
    (hform : readForm r = some i) : decodeAccess a = .ok i :=
  (decodeAccess_ok_iff a i).mpr ⟨hsize, r, hoff, .inl ⟨hdir, hform⟩⟩

end

/-- A read of CMD, or a write of anything but CMD, DATA0 and DATA1 (R55). -/
def WrongDir (a : Access) : Prop :=
  (a.dir = .read ∧ a.off.toNat = 0x008) ∨
    (a.dir = .write ∧ a.off.toNat ≠ 0x008 ∧ a.off.toNat ≠ 0x018 ∧ a.off.toNat ≠ 0x020)

theorem decodeAccess_of_wrongDir {a : Access} (hsize : a.size = 8) (halign : a.off.toNat % 8 = 0)
    (hmapped : ¬Unmapped a.off) (h : WrongDir a) : decodeAccess a = .error .busDir := by
  rcases h with ⟨hdir, hoff⟩ | ⟨hdir, hcmd, hdata0, hdata1⟩
  · exact decodeAccess_readCmd hdir hsize (BitVec.eq_of_toNat_eq hoff)
  · obtain ⟨r, hoff⟩ := exists_offsetOf halign hmapped
    refine decodeAccess_of_readOnly hsize hoff hdir (Option.eq_none_iff_forall_ne_some.mpr fun i hi => ?_)
    rw [hoff] at hcmd hdata0 hdata1
    rcases offsetOf_of_writeForm hi with h | h | h
    · exact hcmd (congrArg BitVec.toNat h)
    · exact hdata0 (congrArg BitVec.toNat h)
    · exact hdata1 (congrArg BitVec.toNat h)

/-! ### What an access without a cause of R212 does (R214) -/

/-- A word that passes the three checks of the decoder (R88). -/
theorem exists_decodeCommandWord {w : Word} (hop : (opField w).toNat ≤ 4) (hrsvd : rsvdField w = 0)
    (hlen : opField w ≠ 2 → lenField w = 0) (hshort : opField w = 2 → (lenField w).toNat ≤ 16) :
    ∃ c, decodeCommandWord w = .ok c := by
  obtain ⟨c, hc⟩ := exists_commandOfOp hop (lenField w)
  refine ⟨c, ?_⟩
  simp only [decodeCommandWord, hc]
  rw [if_neg (by tauto), if_neg (fun h => absurd (hshort h.1) (by omega))]

theorem opField_of_update {w : Word} {n : BitVec 5} (h : decodeCommandWord w = .ok (.update n)) : opField w = 2 := by
  obtain ⟨-, henc⟩ := (decodeCommandWord_ok_iff w _).mp h
  cases henc
  exact (fields_updateWord n).1

/-- A command that no check of R88 stops answers OKAY, and keeps or clears the error record. -/
theorem execCommand_of_accepted {c : Command} {s : State}
    (h : ∀ n, c = .update n → n.toNat ≤ 16 ∧ s.phase = .opened) :
    ∃ t, execCommand c s = .next t ∧ t.responses = s.responses ++ [okay 0] ∧
      (s.SameErrors t ∨ s.clearErrors.SameErrors t) := by
  obtain ⟨u, hu, -, hresponses⟩ := execCommand_answers c s
  refine ⟨_, hu, by rw [State.respond_responses, hresponses], ?_⟩
  rcases execCommand_errors hu with ⟨-, hclear⟩ | ⟨-, hsame⟩ | ⟨n, e, hc, hbad, -⟩
  · exact .inr hclear
  · exact .inl hsame
  · obtain ⟨hn, hphase⟩ := h n hc
    rcases hbad with hlong | hfin
    · omega
    · rw [hphase] at hfin; cases hfin

section
variable {s : State} {a : Access} {rest : List HostEvent} (hp : s.pending = .access a :: rest) (hsize : a.size = 8)
include hp hsize

theorem step_of_write {r : RegName} {i : Instr} (hdir : a.dir = .write) (hoff : a.off.toNat = (offsetOf r).toNat)
    (hform : writeForm r a.wdata = some i) : step s = exec i { s with pending := rest } :=
  step_of_decoded hp (decodeAccess_of_write hsize (BitVec.eq_of_toNat_eq hoff) hdir hform)

/-- A read of any register but CMD answers its value. -/
theorem step_of_read {r : RegName} (hdir : a.dir = .read) (hoff : a.off = offsetOf r) (hcmd : offsetOf r ≠ 0x008) :
    ∃ v, step s = .next ({ s with pending := rest }.answered v) := by
  obtain ⟨i, hform⟩ := exists_readForm_of_offset hcmd
  rw [step_of_decoded hp (decodeAccess_of_read hsize hoff hdir hform)]
  exact ⟨_, exec_of_isRead (isRead_of_readForm hform) _⟩

/-- A write of a legal word to CMD runs its command. -/
theorem step_of_writeCmd {c : Command} (hdir : a.dir = .write) (hoff : a.off.toNat = 0x008)
    (hdec : decodeCommandWord a.wdata = .ok c) : step s = execCommand c { s with pending := rest } :=
  (step_of_write hp hsize (r := .cmd) hdir hoff rfl).trans (execWrCmd_ok _ _ c hdec)

/-- An access that no check of R212 stops answers OKAY, and keeps or clears the error record. -/
theorem step_of_accepted (halign : a.off.toNat % 8 = 0) (hmapped : ¬Unmapped a.off) (hdirection : ¬WrongDir a)
    (hword : a.dir = .write → a.off.toNat = 0x008 → ∃ c, decodeCommandWord a.wdata = .ok c ∧
      ∀ n, c = .update n → n.toNat ≤ 16 ∧ s.phase = .opened) :
    ∃ t v, step s = .next t ∧ t.responses = s.responses ++ [okay v] ∧
      (s.SameErrors t ∨ s.clearErrors.SameErrors t) := by
  cases hdir : a.dir with
  | read =>
    obtain ⟨r, hoff⟩ := exists_offsetOf halign hmapped
    obtain ⟨v, hstep⟩ := step_of_read hp hsize hdir hoff fun h =>
      hdirection (.inl ⟨hdir, congrArg BitVec.toNat (hoff.trans h)⟩)
    exact ⟨_, v, hstep, rfl, .inl (.refl s)⟩
  | write =>
    have hwrite : a.off.toNat = 0x008 ∨ a.off.toNat = 0x018 ∨ a.off.toNat = 0x020 := by
      by_contra hoff
      push Not at hoff
      exact hdirection (.inr ⟨hdir, hoff⟩)
    rcases hwrite with hoff | hoff | hoff
    · obtain ⟨c, hdec, hc⟩ := hword hdir hoff
      obtain ⟨t, ht, hresponses, herrors⟩ := execCommand_of_accepted (s := { s with pending := rest }) hc
      exact ⟨t, 0, (step_of_writeCmd hp hsize hdir hoff hdec).trans ht, hresponses, herrors⟩
    · exact ⟨_, 0, step_of_write hp hsize (r := .data0) hdir hoff rfl, rfl, .inl (.refl s)⟩
    · exact ⟨_, 0, step_of_write hp hsize (r := .data1) hdir hoff rfl, rfl, .inl (.refl s)⟩

end

/-- Settles O14: the checks of the bus, of the command decoder and of UPDATE in their order, and `step_of_accepted`. -/
theorem errorPriorityAndResponse : Obligations.ErrorPriorityAndResponse := by
  intro s a rest hp s0 off op len rsvd misaligned unmapped wrongDir toCmd
  have aligned (h : ¬misaligned) : a.size = 8 ∧ a.off.toNat % 8 = 0 := by
    simpa [misaligned] using h
  have opField_eq (h : op = 2) : opField a.wdata = 2 := BitVec.eq_of_toNat_eq h
  have cmd (h : ¬misaligned) (hto : toCmd) : step s = exec (.wrCmd a.wdata) s0 :=
    step_of_write hp (aligned h).1 (r := .cmd) hto.1 hto.2 rfl
  refine ⟨fun h => step_of_misaligned hp h, fun h hun => ?_, fun h hun hwrong => ?_, fun h hto hop => ?_,
    fun h hto hop hbits => ?_, fun h hto hop hrsvd hlen => ?_, fun h hto hop hrsvd hlen hphase => ?_,
    fun h hun hwrong hlegal => ?_⟩
  · exact step_of_refused_eq_refusedOnBus hp (decodeAccess_of_unmapped (aligned h).1 (aligned h).2 hun)
  · exact step_of_refused_eq_refusedOnBus hp (decodeAccess_of_wrongDir (aligned h).1 (aligned h).2 hun hwrong)
  · exact (cmd h hto).trans (illegalOpcodeIsRecorded _ s0 hop)
  · refine (cmd h hto).trans (reservedBitsAreRecorded _ s0 hop ?_)
    exact hbits.imp_right fun ⟨hop2, hlen⟩ => ⟨fun heq => hop2 (congrArg BitVec.toNat heq),
      fun heq => hlen (congrArg BitVec.toNat heq)⟩
  · exact (cmd h hto).trans ((lenRangeIsChecked _ s0 (opField_eq hop) hrsvd).1 hlen)
  · have hdec := (decodeCommandWord_of_update (opField_eq hop) hrsvd).trans (if_neg (Nat.not_lt.mpr hlen))
    exact (step_of_writeCmd hp (aligned h).1 hto.1 hto.2 hdec).trans (exec_update_of_finalized hlen hphase)
  · refine step_of_accepted hp (aligned h).1 (aligned h).2 hun hwrong fun hdir hoff => ?_
    obtain ⟨hop, hrsvd, hlen, hupdate⟩ := hlegal ⟨hdir, hoff⟩
    obtain ⟨c, hdec⟩ := exists_decodeCommandWord (w := a.wdata) hop hrsvd
      (fun hne => BitVec.eq_of_toNat_eq (hlen fun h2 => hne (opField_eq h2)))
      fun h2 => (hupdate (congrArg BitVec.toNat h2)).1
    refine ⟨c, hdec, fun n hc => ⟨decodeCommandWord_update (hc ▸ hdec), (hupdate ?_).2⟩⟩
    exact congrArg BitVec.toNat (opField_of_update (hc ▸ hdec))

end Sys2Proof.Machine

namespace Sys2Proof.Machine

/-! ### Decoder and encoder are inverse to each other (R80 to R89) -/

theorem isRead_toInstr (c : Command) : c.toInstr.isRead = false := by cases c <;> rfl

/-- What a command word encodes is a command. -/
theorem exists_toInstr_of_encode {i : Instr} {w : Word} (h : encode i = .command w) : ∃ c : Command, c.toInstr = i := by
  cases i with
  | nop => exact ⟨.nop, rfl⟩
  | init => exact ⟨.init, rfl⟩
  | update n => exact ⟨.update n, rfl⟩
  | finalize => exact ⟨.finalize, rfl⟩
  | clrerr => exact ⟨.clrerr, rfl⟩
  | _ => cases h

/-- An access form has no operand that could be out of range. -/
theorem wellFormed_of_encode_access {i : Instr} {a : AccessCode} {v : Word} (h : encode i = .access a v) :
    i.WellFormed := by
  cases i with
  | update n => cases h
  | _ => rfl

theorem decode_command_ok_iff (w : Word) (i : Instr) :
    decode (.command w) = .ok i ↔ ∃ c : Command, decodeCommandWord w = .ok c ∧ c.toInstr = i := by
  cases h : decodeCommandWord w <;> simp [decode, h]

/-- Settles O1: each of the two decoders accepts exactly the encodings of the instruction it answers. -/
theorem decodeOfEncodeIsIdentity : Obligations.DecodeOfEncodeIsIdentity := by
  intro i hwf
  cases henc : encode i with
  | command w =>
    obtain ⟨c, rfl⟩ := exists_toInstr_of_encode henc
    exact (decode_command_ok_iff w _).mpr ⟨c, (decodeCommandWord_ok_iff w c).mpr ⟨hwf, henc.symm⟩, rfl⟩
  | access a v =>
    refine (decodeAccess_ofCode_iff a v i).mpr ?_
    cases hread : i.isRead with
    | false => exact henc.symm
    | true =>
      obtain ⟨r, hform⟩ := exists_readForm hread
      obtain ⟨-, rfl⟩ := Encoding.access.inj ((encode_of_readForm hform).symm.trans henc)
      exact henc.symm

/-- Settles O2: the same two equivalences, read the other way. -/
theorem encodeOfDecodeIsIdentity : Obligations.EncodeOfDecodeIsIdentity := by
  intro e i hdec
  cases e with
  | command w =>
    obtain ⟨c, hword, rfl⟩ := (decode_command_ok_iff w i).mp hdec
    obtain ⟨hwf, henc⟩ := (decodeCommandWord_ok_iff w c).mp hword
    exact ⟨hwf, .inl ⟨isRead_toInstr c, henc.symm⟩⟩
  | access a v =>
    have henc := (decodeAccess_ofCode_iff a v i).mp hdec
    refine ⟨wellFormed_of_encode_access henc.symm, ?_⟩
    cases hread : i.isRead with
    | false => exact .inl ⟨rfl, by rw [← henc, hread]; rfl⟩
    | true => exact .inr ⟨rfl, a, v, rfl, by rw [← henc, hread]; rfl⟩

/-- Settles O3: each word is the encoding of its instruction. -/
theorem specWordsDecode : Obligations.SpecWordsDecode :=
  have hdec := decodeOfEncodeIsIdentity
  ⟨hdec .nop rfl, hdec .init rfl, hdec (.update 9) rfl, hdec (.update 16) rfl, hdec .finalize rfl, hdec .clrerr rfl,
    hdec .rdStatus rfl, hdec (.rdConst 7) rfl, hdec (.rdTable 0x80) rfl, hdec (.wrCmd 0x3) rfl,
    hdec (.wrData0 0x3837363534333231) rfl, hdec (.wrData1 0x39) rfl⟩

/-! ### What the next step runs (R56, R80, R217) -/

/-- Settles O6: the two outcomes of the bus decoder. -/
theorem stepRunsDecodedAccess : Obligations.StepRunsDecodedAccess :=
  fun _ _ _ hp => ⟨fun _ => step_of_decoded hp, fun _ => step_of_refused_eq_refusedOnBus hp⟩

/-- What an encoding decodes to is what the step runs, a command word through the write of CMD (R80, R89). -/
theorem step_of_encoding {s : State} {e : Encoding} {i : Instr} {rest : List HostEvent}
    (hp : s.pending = .access e.toAccess :: rest) (hdec : decode e = .ok i) :
    step s = exec i { s with pending := rest } := by
  cases e with
  | command w =>
    obtain ⟨c, hword, rfl⟩ := (decode_command_ok_iff w i).mp hdec
    rw [step_of_command hp hword, execCommand_eq_exec]
  | access a v => exact step_of_decoded hp hdec

/-- Settles O7: an instruction's encoding decodes to it. -/
theorem stepRunsEncodedInstruction : Obligations.StepRunsEncodedInstruction :=
  fun i _ _ hwf hp => step_of_encoding hp (decodeOfEncodeIsIdentity i hwf)

theorem decode_ofTableWord {nbits w : Nat} {i : Instr} (h : decodeTableWord nbits w = some i) :
    decode (Encoding.ofTableWord nbits w) = .ok i := by
  rw [decodeTableWord, Option.ite_none_right_eq_some] at h
  obtain ⟨-, h⟩ := h
  cases hdec : decode (Encoding.ofTableWord nbits w) with
  | ok j => rw [hdec] at h; cases h; rfl
  | error e => rw [hdec] at h; cases h

/-- Settles O8: `withFetchWord` delivers the encoding that `decodeTableWord` reads. -/
theorem tableWordRunsItsRow : Obligations.TableWordRunsItsRow :=
  fun s nbits w _ h => step_of_encoding (s := s.withFetchWord nbits w) rfl (decode_ofTableWord h)

theorem step_of_idle {s : State} (h : s.pending = []) : step s = .next s := by simp [step, stepCore, h]

/-- Settles O9: by the kind of the next event. -/
theorem noStepIsStuck : Obligations.NoStepIsStuck := by
  refine ⟨fun s => ?_, fun s => step_of_idle⟩
  cases hp : s.pending with
  | nil => exact ⟨s, step_of_idle hp⟩
  | cons e rest =>
    cases e with
    | access a => exact exists_step_of_access hp
    | reset q => exact ⟨_, step_of_reset hp⟩

/-- Every view reads 0 after reset (R36). -/
theorem State.reset_views : State.reset.status = 0 ∧ State.reset.result = 0 ∧ State.reset.tail0 = 0 ∧
    State.reset.tail1 = 0 ∧ State.reset.foldLo = 0 ∧ State.reset.foldHi = 0 := by decide

/-- Settles O10: the next state is the reset state with the other events, and no view looks at the events. -/
theorem resetEventRestoresEveryRegister : Obligations.ResetEventRestoresEveryRegister :=
  have ⟨hstatus, hresult, htail0, htail1, hfoldLo, hfoldHi⟩ := State.reset_views
  fun _ _ _ hp => ⟨_, step_of_reset hp, rfl, rfl, rfl, rfl, rfl, rfl, rfl, rfl, rfl, rfl, rfl, rfl,
    hstatus, hresult, htail0, htail1, hfoldLo, hfoldHi, rfl⟩

/-! ### The invariants of the state (R33, R210) -/

/-- Settles O39: the reset values, field by field. -/
theorem resetMeetsInvariant : Obligations.ResetMeetsInvariant :=
  fun _ => ⟨Nat.zero_le 15, fun _ => rfl, nofun, fun _ => rfl, fun _ => rfl, fun _ => ⟨rfl, rfl, rfl⟩, Nat.zero_le 7⟩

section
variable {s : State} (h : s.Inv)
include h

/-- A recorded code is 1 to 7 (R210), and the digest is left alone. -/
theorem State.Inv.recordError (e : ErrCode) : (s.recordError e).Inv := by
  obtain ⟨htail, hfold, hfinal, hacc, hcount, -, -⟩ := h
  obtain ⟨hlow, hhigh⟩ := errCode_bounds e
  refine ⟨htail, hfold, hfinal, hacc, hcount, fun hzero => ?_, hhigh⟩
  rw [State.recordError_lastErr] at hzero
  rw [hzero] at hlow
  cases hlow

theorem State.Inv.clearErrors : s.clearErrors.Inv := by
  obtain ⟨htail, hfold, hfinal, hacc, hcount, -, -⟩ := h
  exact ⟨htail, hfold, hfinal, hacc, hcount, fun _ => ⟨rfl, rfl, rfl⟩, Nat.zero_le 7⟩

/-- INIT sets every register that the invariants of the digest speak of (R172). -/
theorem State.Inv.startDigest : s.startDigest.Inv := by
  obtain ⟨-, -, -, -, -, hflags, hcode⟩ := h
  exact ⟨Nat.zero_le 15, fun _ => rfl, nofun, fun _ => rfl, fun _ => rfl, hflags, hcode⟩

/-- PUSH lengthens the tail with COUNT, and empties it when COUNT reaches a multiple of 16 (R175). -/
theorem State.Inv.push (hphase : s.phase = .opened) (b : Byte) : (s.push b).Inv := by
  obtain ⟨htail, hfold, -, hacc, hcount, hflags, hcode⟩ := h
  have hmod := hcount hphase
  have hnext : (s.count + 1).toNat % 16 = (s.tailLen + 1) % 16 := by
    rw [BitVec.toNat_add, hmod]
    simp
  by_cases hfull : s.tailLen = 15
  · rw [State.push_of_full s b hfull, State.takeBlock_eq]
    rw [hfull] at hnext
    exact ⟨Nat.zero_le 15, nofun, fun hfinal => absurd (hphase.symm.trans hfinal) nofun, hacc, fun _ => hnext.symm,
      hflags, hcode⟩
  · rw [State.push_of_short s b hfull]
    have hlen := s.appendByte_tailLen b
    refine ⟨by omega, hfold, fun hfinal => absurd (hphase.symm.trans hfinal) nofun, hacc, fun _ => ?_, hflags, hcode⟩
    rw [hlen, State.appendByte_count]
    omega

theorem State.Inv.pushAll (hphase : s.phase = .opened) (bs : List Byte) : (s.pushAll bs).Inv := by
  induction bs generalizing s with
  | nil => exact h
  | cons b bs ih => exact ih (h.push hphase b) ((s.push_phase b).trans hphase)

/-- FINALIZE leaves FOLD and TAIL empty (R177). -/
theorem State.Inv.finalize : s.reduceFold.drainTail.closeDigest.Inv := by
  obtain ⟨-, hfold, -, -, -, hflags, hcode⟩ := h
  have hempty : (if s.fv then 0 else s.fold) = 0 := by
    cases hfv : s.fv with
    | true => rfl
    | false => exact hfold hfv
  rw [State.reduceFold_eq]
  exact ⟨Nat.zero_le 15, fun _ => hempty, fun _ => ⟨rfl, hempty, rfl⟩, nofun, nofun, hflags, hcode⟩

theorem State.Inv.execCommand {c : Command} {t : State} (hrun : execCommand c s = .next t) : t.Inv := by
  cases c with
  | nop => cases hrun; exact h
  | init => cases hrun; exact h.startDigest
  | clrerr => cases hrun; exact h.clearErrors
  | update n =>
    rcases execUpdate_cases n s with ⟨e, herr⟩ | ⟨-, hphase, hpush⟩
    · cases herr.symm.trans hrun; exact h.recordError e
    · cases hpush.symm.trans hrun; exact h.pushAll hphase _
  | finalize =>
    cases hphase : s.phase with
    | opened => cases (execFinalize_of_opened hphase).symm.trans hrun; exact h.finalize
    | finalized => cases (execFinalize_of_finalized hphase).symm.trans hrun; exact h

theorem State.Inv.exec {i : Instr} {t : State} (hrun : exec i s = .next t) : t.Inv := by
  rcases exec_kinds i with ⟨c, -, hcmd⟩ | ⟨-, -, hread⟩ | ⟨-, w, e, -, -, herr⟩ | ⟨-, v, rfl⟩ | ⟨-, v, rfl⟩
  · exact h.execCommand ((hcmd s).symm.trans hrun)
  · cases (hread s).symm.trans hrun; exact h
  · cases (herr s).symm.trans hrun; exact h.recordError e
  · cases hrun; exact h
  · cases hrun; exact h

end

/-- Settles O38: by the kind of the next event; the invariants do not speak of the pending events. -/
theorem stepKeepsInvariant : Obligations.StepKeepsInvariant := by
  intro s t h hstep
  rcases stepCore_cases s with ⟨-, hidle⟩ | ⟨a, rest, hp, -⟩ | ⟨q, rest, -, hreset⟩
  · cases hidle.symm.trans hstep; exact h
  · cases hdec : decodeAccess a with
    | error e => cases (step_of_refused hp hdec).symm.trans hstep; exact State.Inv.recordError (s := s) h e
    | ok i => exact State.Inv.exec (s := { s with pending := rest }) h ((step_of_decoded hp hdec).symm.trans hstep)
  · cases hreset.symm.trans hstep; exact resetMeetsInvariant rest

/-! ### REDUCE at its corner cases (R146) -/

/-- Settles O46: the five values, by evaluating the engine. -/
theorem reduceValues : Obligations.ReduceValues := by
  unfold Obligations.ReduceValues
  decide

/-! ### Several cores on one platform (R221) -/

/-- Stepping core `k` of a platform puts its next state in its place. -/
theorem Platform.stepInstance_of_step {p : Platform} {k : Nat} {s t : State} (hk : p.instances[k]? = some s)
    (hstep : step s = .next t) : p.stepInstance k = .next { instances := p.instances.set k t } := by
  simp [Platform.stepInstance, hk, hstep]

theorem Platform.stepInstance_of_none {p : Platform} {k : Nat} (hk : p.instances[k]? = none) :
    p.stepInstance k = .next p := by simp [Platform.stepInstance, hk]

/-- Settles O60: a step and a delivery change the list of cores at one index alone. -/
theorem instancesShareNoState : Obligations.InstancesShareNoState := by
  refine ⟨fun p p' k j hne h => ?_, fun p k j e hne => ?_, fun p k s t hk hstep => ?_, fun k hk => ?_⟩
  · cases hk : p.instances[k]? with
    | none => cases (Platform.stepInstance_of_none hk).symm.trans h; rfl
    | some s =>
      obtain ⟨t, hstep⟩ := noStepIsStuck.1 s
      cases (Platform.stepInstance_of_step hk hstep).symm.trans h
      exact List.getElem?_set_ne hne.symm
  · exact List.getElem?_modify_ne _ _ hne.symm
  · obtain ⟨hlt, -⟩ := List.getElem?_eq_some_iff.mp hk
    exact ⟨_, Platform.stepInstance_of_step hk hstep, List.getElem?_set_self hlt⟩
  · exact List.getElem?_replicate_of_lt hk

end Sys2Proof.Machine
